-- ==== Sys2Proof/Word.lean ====
section
/-! DEFINITION. The words of the station: station time, bytes, flag words, slot numbers. -/

namespace Sys2Proof

/-- Station time: a 48-bit count of microseconds that continues at 0 after `2^48 - 1` (R55). -/
abbrev Time := BitVec 48

/-- One byte on the loop line or at the report port (chapter 11). -/
abbrev Byte := BitVec 8

/-- The flag word of a notice, record or log entry: 16 bits, counted from the least significant (R170). -/
abbrev Flags := BitVec 16

/-- A slot number of the competitor table, 0..127 (R92). -/
abbrev SlotNo := Fin 128

end Sys2Proof
end

