-- ==== Sys2Proof/Config.lean ====
section
/-! DEFINITION. What the part fixes: the capacities of its tables and queues and its fixed durations, each with the rule that
names it; and the one free value of the model, a constant with no body. -/

namespace Sys2Proof.Config

/-- Places of the open-pass table (R20). -/
abbrev passPlaces : Nat := 48
/-- Stored hits of one pass (R19, R24). -/
abbrev storedHits : Nat := 32
/-- The largest stride (R24). -/
abbrev maxStride : Nat := 64
/-- Places of the local passing queue (R33). -/
abbrev localPlaces : Nat := 16
/-- Places of the transmit queue (R79). -/
abbrev transmitPlaces : Nat := 24
/-- Places of the transmit queue that TIME and STATUS notices may take (R79, R80). -/
abbrev timedPlaces : Nat := 8
/-- Places of the line intake queue (R89). -/
abbrev intakePlaces : Nat := 32
/-- Entries of the settle list (R112). -/
abbrev settlePlaces : Nat := 64
/-- Entries of the watch list (R135). -/
abbrev watchPlaces : Nat := 64
/-- Places of the passing log's ring (R149). -/
abbrev logPlaces : Nat := 2048
/-- Records of the report FIFO (R153). -/
abbrev fifoPlaces : Nat := 128
/-- The last passing number; the draw that takes it exhausts the counter (R147, R148). -/
abbrev lastNumber : Nat := 4294967295
/-- The greatest transponder id; 0 and 16,777,215 are not issued (R4). -/
abbrev lastTransponder : Nat := 16777214
/-- Where saturating 16-bit counts stop (R19, R59, R93, R109). -/
abbrev countLimit : Nat := 65535

/-- The capture margin, in level units (R3). -/
abbrev captureMargin : Nat := 6
/-- The eviction age, in µs (R26). -/
abbrev evictionAge : Nat := 2000
/-- The interval of TIME notices, in µs (R58). -/
abbrev timeInterval : Nat := 50000
/-- The interval of STATUS notices, in µs (R69). -/
abbrev statusInterval : Nat := 1000000
/-- The age at which a STATUS notice is promoted, in µs (R81). -/
abbrev promotionAge : Nat := 100000
/-- The time after which a silent peer is STALE, in µs (R59, R64). -/
abbrev staleTime : Nat := 500000
/-- One back-off slot, in µs (R76). -/
abbrev backoffSlot : Nat := 100
/-- The congestion pause, in µs (R77). -/
abbrev congestionPause : Nat := 20000
/-- How long an unbroken carrier jams the line, in µs (R78). -/
abbrev jamTime : Nat := 20000
/-- The collision at which a run of attempts ends (R77). -/
abbrev lastCollision : Nat := 12
/-- The clearing time, in µs (R159). -/
abbrev clearingTime : Nat := 2000
/-- How long a slot has been idle when it may be reclaimed, in µs (R98). -/
abbrev reclaimAge : Nat := 600000000
/-- The greatest difference between a sample and the offset that is accepted, in sixteenths of a µs (R63). -/
abbrev rejectLimit : Nat := 3200
/-- The greatest magnitude of a usable sample, in µs (R60). -/
abbrev usableLimit : Nat := 1099511627775

/-- FREE VALUE. The flags SHORT, CLOCK_SOFT, FORECAST and REVISED of a SECTOR record that is UNPAIRED with reason NO_CLOCK or WITHDRAWN
although a feeder passing met it, and of an AMEND SECTOR record without a value: R116, R120, R123, R126, R128 and R129 do not state
them (notes/assumptions/14.md). Its arguments are the passing number and the flags held before. -/
opaque unstatedSectorFlags : Nat → Flags → Flags

end Sys2Proof.Config
end

