-- ==== Sys2Proof/Syntax.lean ====
section
/-! DEFINITION. The commands of the station, one constructor for each row of spec/opcode_table.json, and what they carry. -/

namespace Sys2Proof

/-- The three loop receiver channels (R1). -/
inductive Channel where
  | a | b | c
deriving DecidableEq, Repr

/-- One value for each channel. -/
structure PerChannel (α : Type) where
  a : α
  b : α
  c : α
deriving DecidableEq, Repr

/-- The line groups of an arrangement (R1). -/
inductive LineGroup where
  /-- The timing group: {A} in SINGLE and TRAP, the configured channels in SPLIT. -/
  | timing
  /-- The exit loop {B} of a TRAP station, whose passes give trap marks. -/
  | exitLoop
deriving DecidableEq, Repr

/-- The key of an entry of the open-pass table: transponder id and line group (R20, 2.1). -/
structure PassKey where
  transponder : Nat
  group : LineGroup
deriving DecidableEq, Repr

/-- A burst as the channel has received it (R3 to R5). -/
structure Burst where
  /-- The 24-bit id the burst carries. -/
  id : Nat
  /-- The low-battery indication it carries. -/
  lowBattery : Bool
  /-- Whether its check field matches id and indication; the manual does not give the check (notes/assumptions/4.md). -/
  checkMatches : Bool
  /-- Station time at the detected start of the burst. -/
  start : Time
  /-- The strength measured, 0..255. -/
  strength : Nat
  /-- The strengths of the bursts whose reception on this channel shared a moment with this one (R3). -/
  overlaps : List Nat
deriving DecidableEq, Repr

/-- The arguments of CONFIGURE for one channel, as clocked in (R172). -/
structure ChannelArgs where
  threshold : Nat
  guardLevel : Nat
  filterWidth : Nat
  guardMode : Nat
  quietTime : Nat
deriving DecidableEq, Repr

/-- The arguments of CONFIGURE in the order of R172, as clocked in: enumerated arguments are codes of R170. -/
structure ConfigArgs where
  stationNumber : Nat
  position : Nat
  arrangement : Nat
  splitMask : Nat
  feeder1 : Nat
  feeder2 : Nat
  feeder3 : Nat
  lapLine : Nat
  trapDistance : Nat
  trapWindow : Nat
  channels : PerChannel ChannelArgs
  closeGap : Nat
  maxDwell : Nat
  admission : Nat
  floorFraction : Nat
  minimumHits : Nat
  calibration : Int
  repeatWindow : Nat
  minSector : Nat
  maxSector : Nat
  pairWait : Nat
  settleTime : Nat
  tolerance : Nat
  confidenceMax : Nat
  forecastThreshold : Nat
  slack : Nat
  arbiterMode : Nat
  bypassLimit : Nat
  portPromotion : Nat
  fifoThreshold : Nat
  readMode : Nat
  readTimeout : Nat
  attentionAge : Nat
deriving DecidableEq, Repr

/-- The commands and events of the station: the rows of spec/opcode_table.json in their order. -/
inductive Instr where
  /-- POWER_ON_RESET (R162). -/
  | powerOnReset
  /-- BURST_END (R5): the reception of a burst on a channel has ended. -/
  | burstEnd (ch : Channel) (burst : Burst)
  /-- HIT_DELIVERY (R6): channel `ch` offers its completed hit; `receiving` names the bursts still being received, each as the
  channel and the station time at which it began. -/
  | hitDelivery (ch : Channel) (receiving : List (Channel × Time))
  /-- RISING_CROSSING (R8): the carrier level of a channel has reached its guard level. -/
  | risingCrossing (ch : Channel)
  /-- FALLING_CROSSING (R10): the carrier level of a channel has fallen below its guard level. -/
  | fallingCrossing (ch : Channel)
  /-- FILTER_EXPIRY (R9). -/
  | filterExpiry (ch : Channel)
  /-- QUIET_EXPIRY (R11). -/
  | quietExpiry (ch : Channel)
  /-- GUARD_REARM (R12), with the channel code it carries (R172). -/
  | guardRearm (channelCode : Nat)
  /-- SILENCE_EXPIRY (R28) of the OPEN or PARKED entry of a key. -/
  | silenceExpiry (key : PassKey)
  /-- DWELL_EXPIRY (R29) of the OPEN entry of a key. -/
  | dwellExpiry (key : PassKey)
  /-- STALE_EXPIRY (R64) of the peer record of a station number. -/
  | staleExpiry (station : Nat)
  /-- CLOCK_WRAP (R56). -/
  | clockWrap
  /-- TIME_INTERVAL_EXPIRY (R58). -/
  | timeIntervalExpiry
  /-- STATUS_INTERVAL_EXPIRY (R69). -/
  | statusIntervalExpiry
  /-- STATUS_PROMOTION (R81). -/
  | statusPromotion
  /-- CARRIER_RISE (R74). -/
  | carrierRise
  /-- CARRIER_DROP (R78). -/
  | carrierDrop
  /-- ATTEMPT_START (R74). -/
  | attemptStart
  /-- ATTEMPT_COMPLETE (R75). -/
  | attemptComplete
  /-- COLLISION (R76), with the random value from which the number of back-off slots is taken (notes/assumptions/9.md). -/
  | collision (draw : Nat)
  /-- BACKOFF_END (R76). -/
  | backoffEnd
  /-- CONGESTION_END (R77). -/
  | congestionEnd
  /-- LINE_JAMMED (R78). -/
  | lineJammed
  /-- FRAME_RECEIVED (R86): the bits on receive data from the carrier's rise to its drop, and the station time at the start
  delimiter. -/
  | frameReceived (signal : List Bool) (receiveTime : Time)
  /-- PAIR_WAIT_DUE (R111) for the pending sector of a slot. -/
  | pairWaitDue (slot : SlotNo)
  /-- SETTLE_DUE (R112) for the settle entry of a slot. -/
  | settleDue (slot : SlotNo)
  /-- WATCH_DUE (R135) for the watch of a slot. -/
  | watchDue (slot : SlotNo)
  /-- TRAP_WAIT_DUE (R48) for the trap wait of a slot. -/
  | trapWaitDue (slot : SlotNo)
  /-- LOCAL_GRANT (R100). -/
  | localGrant
  /-- LINE_GRANT (R100). -/
  | lineGrant
  /-- TIMER_GRANT (R101). -/
  | timerGrant
  /-- PORT_GRANT (R102). -/
  | portGrant
  /-- CONFIGURE (R160), with the carrier levels that the channels measure at that moment (R17). -/
  | configure (args : ConfigArgs) (levels : PerChannel Nat)
  /-- CONFIG_READ (R161). -/
  | configRead
  /-- RESTART (R162). -/
  | restart
  /-- START_SESSION (R163). -/
  | startSession
  /-- CLEARING_END (R159). -/
  | clearingEnd
  /-- HALT (R164). -/
  | halt
  /-- STATION_HALT (R165). -/
  | stationHalt
  /-- ROSTER_PUT (R95). -/
  | rosterPut (transponder competitor : Nat)
  /-- ROSTER_CLEAR (R96). -/
  | rosterClear
  /-- SLOT_READ (R106). -/
  | slotRead (slot : Nat)
  /-- SNAPSHOT (R107). -/
  | snapshot (first count : Nat)
  /-- WITHDRAW (R127). -/
  | withdraw (number : Nat)
  /-- RETIME (R127). -/
  | retime (number time : Nat)
  /-- MARK (R127). -/
  | mark (transponder time : Nat)
  /-- REPORT_READ (R157). -/
  | reportRead (count : Nat)
  /-- READ_TIMER_EXPIRY (R157). -/
  | readTimerExpiry
  /-- ATTENTION_AGE_EXPIRY (R155). -/
  | attentionAgeExpiry
  /-- POLL (R156). -/
  | poll
  /-- UNKNOWN_COMMAND (R171): a request with this code and argument length that names no command of the part. -/
  | unknownCommand (code length : Nat)
  /-- DESELECT (R171). -/
  | deselect
  /-- LOG_READ (R152). -/
  | logRead (first count : Nat)
  /-- PEER_READ (R70). -/
  | peerRead (station : Nat)
  /-- STATUS_READ (R166). -/
  | statusRead
  /-- FAULT_READ (R168). -/
  | faultRead
  /-- FAULT_CLEAR (R168). -/
  | faultClear
  /-- OVERRUN_CLEAR (R154). -/
  | overrunClear
  /-- RESPONSE_DELIVERED (R171). -/
  | responseDelivered
deriving DecidableEq, Repr

end Sys2Proof
end

