-- ==== Sys2Proof/Machine/State.lean ====
section
/-! DEFINITION. The state of the station, block by block, as plain data; its value after power-on reset; the reasons a step
can stop. -/

namespace Sys2Proof.Machine

/-- No event stops the station: the five faults of R167 are recorded in the fault capture, and the station goes on
(notes/assumptions/32.md). -/
inductive Fault where
deriving DecidableEq, Repr

/-- Why a command has no meaning. -/
inductive Refusal where
  /-- Raised by `exec` alone, for a row of the table without a meaning; safe. No row is without one. -/
  | notModelled (mnemonic : String)
deriving DecidableEq, Repr

/-! ## Flags, codes and modes -/

/-- The flags of the flag word (R170). -/
inductive Flag where
  | lowBattery | early | interrupted | stationary | weak | repeated | forecast | manual | retimed | untracked | best | short
  | clockSoft | revised | unsettled | saturated
deriving DecidableEq, Repr

/-- The arrangements, with the mask of SPLIT (R1). -/
inductive Arrangement where
  | single | trap | splitAB | splitABC
deriving DecidableEq, Repr

/-- The guard mode (R7). -/
inductive GuardMode where
  | auto | latched
deriving DecidableEq, Repr

/-- The admission mode (R21). -/
inductive Admission where
  /-- OPEN admission. -/
  | anyone
  | rosterOnly
deriving DecidableEq, Repr

/-- The arbiter mode (R103). -/
inductive ArbiterMode where
  | localFirst | lineFirst
deriving DecidableEq, Repr

/-- The read mode of REPORT_READ (R157). -/
inductive ReadMode where
  | wait | immediate
deriving DecidableEq, Repr

/-- The phase of a configured station (R159); without a configuration the station is UNCONFIGURED. -/
inductive Mode where
  | idle | clearing | running | halting
deriving DecidableEq, Repr

/-- The station states as they are reported (R159, R170). -/
inductive StationState where
  | unconfigured | idle | clearing | running | halting
deriving DecidableEq, Repr

/-- The configuration of one channel (R5, R7). -/
structure ChannelParams where
  threshold : Nat
  guardLevel : Nat
  /-- W, in ms. -/
  filterWidth : Nat
  guardMode : GuardMode
  /-- Q, in ms. -/
  quietTime : Nat
deriving DecidableEq, Repr

/-- The configuration in force: the parameters of R160. Times are in ms, the calibration in µs, the position in m. -/
structure Params where
  stationNumber : Nat
  position : Nat
  arrangement : Arrangement
  feeders : List Nat
  lapLine : Bool
  trapDistance : Nat
  trapWindow : Nat
  channels : PerChannel ChannelParams
  closeGap : Nat
  maxDwell : Nat
  admission : Admission
  floorFraction : Nat
  minimumHits : Nat
  calibration : Int
  repeatWindow : Nat
  minSector : Nat
  maxSector : Nat
  pairWait : Nat
  settleTime : Nat
  tolerance : Nat
  confidenceMax : Nat
  forecastThreshold : Nat
  slack : Nat
  arbiterMode : ArbiterMode
  bypassLimit : Nat
  portPromotion : Nat
  fifoThreshold : Nat
  readMode : ReadMode
  readTimeout : Nat
  attentionAge : Nat
deriving DecidableEq, Repr

/-! ## Station control -/

/-- The codes of the fault capture (R167). -/
inductive FaultCode where
  | duplicateStation | lineJammed | feederSilent | numbersExhausted | clockWrap
deriving DecidableEq, Repr

/-- The fields of a locked fault capture (R167). -/
structure FaultCapture where
  code : FaultCode
  time : Time
  /-- A station number, for DUPLICATE_STATION and FEEDER_SILENT. -/
  detail : Option Nat
  lost : Bool
deriving DecidableEq, Repr

/-- Station control (chapter 10). -/
structure StationBlock where
  /-- The configuration in force; none in UNCONFIGURED. -/
  conf : Option Params
  /-- The phase of a configured station. -/
  mode : Mode
  /-- When the clearing time ends (R159). -/
  clearingDue : Option Time
  /-- Station control owes a HALT: the counter was exhausted in RUNNING (R165). -/
  haltDue : Bool
  /-- The fault capture; none while unlocked (R167). -/
  fault : Option FaultCapture
  /-- The sticky flag CLAMPED (R160). -/
  clamped : Bool
deriving DecidableEq, Repr

/-! ## Channels and guards -/

/-- The guard states (R7). -/
inductive GuardState where
  /-- OPEN. -/
  | opened
  | watching | tripped | quieting
deriving DecidableEq, Repr

/-- The field guard of one channel (R7). -/
structure Guard where
  state : GuardState
  /-- The level indication: true is HIGH. -/
  high : Bool
  /-- When the filter timer expires; none while it does not run. -/
  filterDue : Option Time
  /-- When the quiet timer expires; none while it does not run. -/
  quietDue : Option Time
  tripTime : Option Time
deriving DecidableEq, Repr

/-- A hit (R5). -/
structure Hit where
  transponder : Nat
  channel : Channel
  time : Time
  strength : Nat
  lowBattery : Bool
deriving DecidableEq, Repr

/-- The channels and their guards (chapter 1). -/
structure ChannelBlock where
  guards : PerChannel Guard
  /-- The MODEL's own: the station time of the latest reset, which discarded the bursts in reception, counted from the latest wrap of
  station time: less than 0 where it has wrapped since (R17, R56; notes/assumptions/4.md). -/
  resetAt : Int
  /-- Completed hits that have not left their channel (R6), in the order of completion. -/
  held : List Hit
deriving DecidableEq, Repr

/-! ## The pass gatherer -/

/-- The states of an entry of the open-pass table (R20). -/
inductive PassState where
  /-- OPEN. -/
  | opened
  | parked | closing
deriving DecidableEq, Repr

/-- A stored hit of a pass (R19). -/
structure StoredHit where
  dt : Nat
  strength : Nat
  channel : Channel
deriving DecidableEq, Repr

/-- An entry of the open-pass table (R19). -/
structure Entry where
  state : PassState
  key : PassKey
  firstHit : Time
  lastHit : Time
  /-- The stored hit list; empty in PARKED, where it is absent. -/
  stored : List StoredHit
  stride : Nat
  skip : Nat
  hitCount : Nat
  peak : Nat
  peakChannel : Channel
  flags : Flags
  silenceDue : Option Time
  dwellDue : Option Time
  instant : Option Time
  number : Option Nat
  /-- The parking mark of a STATIONARY closing (R29). -/
  parkMark : Bool
  /-- The place of a CLOSING entry in the order of the closes (R34). -/
  closeOrder : Nat
deriving DecidableEq, Repr

/-- An item of the local passing queue (R33): a passing where the number is present, else a trap mark. -/
structure LocalItem where
  number : Option Nat
  transponder : Nat
  instant : Time
  flags : Flags
  peak : Nat
  peakChannel : Channel
  hitCount : Nat
deriving DecidableEq, Repr

/-- The pass gatherer (chapter 2). -/
structure GatherBlock where
  /-- The open-pass table, in the order in which the entries were made. -/
  entries : List Entry
  /-- The local passing queue, oldest first (R33). -/
  queue : List LocalItem
  /-- The admission filter (R21). -/
  filter : List Nat
  /-- The sticky flag CROWDED (R26). -/
  crowded : Bool
  /-- How many closes have been made, from which `closeOrder` is taken (R34). -/
  closeCount : Nat
deriving DecidableEq, Repr

/-! ## The clock unit -/

/-- The clock states of a peer record (R59). -/
inductive ClockState where
  | unheard | acquiring | locked | stale
deriving DecidableEq, Repr

/-- The contents of a STATUS notice (R69), as the codes of R170 that the frame carries (R169). -/
structure StatusFields where
  stationState : Nat
  arrangement : Nat
  lapLine : Nat
  feeder1 : Nat
  feeder2 : Nat
  feeder3 : Nat
  fault : Nat
  latest : Nat
  unsent : Nat
deriving DecidableEq, Repr

/-- A peer record (R59). -/
structure PeerRecord where
  clock : ClockState
  /-- The offset, in sixteenths of a µs. -/
  offset : Option Int
  count : Nat
  rejections : Nat
  lastHeard : Option Time
  staleDue : Option Time
  position : Option Nat
  /-- The status fields and the status heard time (R69). -/
  status : Option (StatusFields × Time)
deriving DecidableEq, Repr

/-- The schedules and the peer clock table (chapter 4). -/
structure ClockBlock where
  /-- The records of the station numbers 1..31, number n at place n - 1. -/
  peers : Vector PeerRecord 31
  /-- When the TIME interval timer expires; none while it does not run (R58). -/
  timeDue : Option Time
  /-- When the next STATUS notice is offered; none while the schedule is stopped (R69). -/
  statusDue : Option Time
deriving DecidableEq, Repr

/-! ## The line controller -/

/-- The line states (5.3). -/
inductive LineState where
  | listening | deferring | sending | backoff | congested | jammed
deriving DecidableEq, Repr

/-- The classes of the transmit queue (R74, R79). -/
inductive NoticeClass where
  | high | middle | low
deriving DecidableEq, Repr

/-- The action of a revision of a passing (R73). -/
inductive Revision where
  | retime (instant : Time)
  | withdraw
deriving DecidableEq, Repr

/-- The contents of a notice in its place in the transmit queue (R57, R69, R73). -/
inductive NoticeBody where
  | time
  | status (fields : StatusFields)
  | passing (number transponder : Nat) (instant : Time) (flags : Flags)
  | revise (number transponder : Nat) (action : Revision)
deriving DecidableEq, Repr

/-- A notice in the transmit queue (R79). -/
structure Notice where
  body : NoticeBody
  cls : NoticeClass
  /-- The entry time, which counts for TIME and STATUS (R79). -/
  entryTime : Time
  collisions : Nat
  inTransmission : Bool
  followOn : Option Revision
  /-- In transmission at the start of a CLEARING: it leaves at the end of its attempt in any case (R90). -/
  leftOver : Bool
deriving DecidableEq, Repr

/-- The clock flag of a converted notice (R68): none, CLOCK_SOFT or NO_CLOCK. -/
inductive ClockFlag where
  | plain | soft | noClock
deriving DecidableEq, Repr

/-- A passing tag: origin station number and passing number. -/
structure Tag where
  origin : Nat
  number : Nat
deriving DecidableEq, Repr

/-- What an item of the line intake queue asks (R89). -/
inductive IntakeBody where
  | passing (instant : Option Time) (clock : ClockFlag) (flags : Flags)
  | retime (instant : Option Time) (clock : ClockFlag)
  | withdraw
deriving DecidableEq, Repr

/-- An item of the line intake queue (R89). -/
structure IntakeItem where
  tag : Tag
  transponder : Nat
  body : IntakeBody
deriving DecidableEq, Repr

/-- The line controller (chapter 5). -/
structure LineBlock where
  state : LineState
  /-- The transmit queue: High, Middle, Low (R79); the head is the notice in transmission, or else the first. -/
  queue : List Notice
  /-- Since when the carrier indication has been watched present; none while it is absent (R74, R78). -/
  carrierSince : Option Time
  /-- From when quiet time counts in DEFERRING; none while it is 0 (R74). -/
  quietFrom : Option Time
  /-- When the back-off wait or the congestion pause ends (R76, R77). -/
  waitDue : Option Time
  /-- When the latest own attempt began. -/
  attemptFrom : Option Time
  /-- When the latest own attempt ended; none while it is in progress. -/
  attemptEnd : Option Time
  /-- The frame that transmit data carries in SENDING, bit by bit; empty otherwise (R169). -/
  frame : List Bool
  /-- The line intake queue, oldest first (R89). -/
  intake : List IntakeItem
  /-- The sticky flag LINE_OVERRUN (R89). -/
  overrun : Bool
deriving DecidableEq, Repr

/-! ## The competitor table, its lists and the arbiter -/

/-- The slot states (R92). -/
inductive SlotState where
  | free | rostered | active
deriving DecidableEq, Repr

/-- The last local passing of a slot (R93). -/
structure LastPassing where
  number : Nat
  instant : Time
  flags : Flags
  /-- The forecast span of a FORECAST passing (R138). -/
  span : Option Nat
  /-- Whether the passing counted a lap (R115); kept here because the ring may overwrite the log entry that shows it. -/
  lapCounted : Bool
deriving DecidableEq, Repr

/-- A feeder record or spent feeder (R93). -/
structure FeederRecord where
  tag : Tag
  instant : Option Time
  clock : ClockFlag
  flags : Flags
deriving DecidableEq, Repr

/-- The last issued sector of a slot (R93, R119). -/
structure IssuedSector where
  number : Nat
  tag : Option Tag
  value : Option Nat
  flags : Flags
deriving DecidableEq, Repr

/-- A competitor slot: identity (R92) and session parts (R93). The links and the trap state are the entries of the four lists that
name the slot. -/
structure Slot where
  state : SlotState
  transponder : Option Nat
  competitor : Nat
  rostered : Bool
  lastActivity : Option Time
  last : Option LastPassing
  /-- The previous counted passing: number and instant. -/
  previous : Option (Nat × Time)
  lapCount : Nat
  lastLap : Option Int
  bestLap : Option Int
  bestBefore : Option Int
  feeder : Option FeederRecord
  spent : Option FeederRecord
  issued : Option IssuedSector
  /-- The expected sector E, in µs; 0 is none. -/
  expected : Nat
  /-- The confidence c. -/
  confidence : Nat
deriving DecidableEq, Repr

/-- A pending sector (R111). `due` is the mark that it has joined the TIMER queue (R101). -/
structure PendingSector where
  slot : SlotNo
  number : Nat
  instant : Time
  expiry : Time
  due : Bool
deriving DecidableEq, Repr

/-- The hold of a settle entry, or the cause that cleared it (R112). -/
inductive Hold where
  | held
  | retimed (instant : Option Time) (clock : ClockFlag)
  | withdrawn
deriving DecidableEq, Repr

/-- A settle entry (R112). -/
structure SettleEntry where
  slot : SlotNo
  number : Nat
  instant : Time
  retimed : Bool
  tag : Tag
  feederInstant : Time
  sector : Nat
  flags : Flags
  hold : Hold
  expiry : Time
  due : Bool
deriving DecidableEq, Repr

/-- A watch (R135). -/
structure Watch where
  slot : SlotNo
  dueTime : Time
  tag : Tag
  /-- E at arming, in µs. -/
  expected : Nat
  due : Bool
deriving DecidableEq, Repr

/-- The sides of a trap wait (R48). -/
inductive TrapSide where
  | entry | exit
deriving DecidableEq, Repr

/-- A trap wait (R48). -/
structure TrapWait where
  slot : SlotNo
  side : TrapSide
  instant : Time
  /-- The entry passing number; present for ENTRY. -/
  number : Option Nat
  flags : Flags
  expiry : Time
  due : Bool
deriving DecidableEq, Repr

/-- The requesters of the arbiter (R100). -/
inductive Requester where
  /-- LOCAL. -/
  | loc
  | line | timer | port
deriving DecidableEq, Repr

/-- One count for each requester. -/
structure PerRequester where
  loc : Nat
  line : Nat
  timer : Nat
  port : Nat
deriving DecidableEq, Repr

/-- The competitor table, the four timed lists and the arbiter (chapters 6 to 8, 3.3). -/
structure TableBlock where
  slots : Vector Slot 128
  /-- The pending list, by expiry (R111). -/
  pending : List PendingSector
  /-- The settle list, by expiry (R112). -/
  settle : List SettleEntry
  /-- The watch list, by due time (R135). -/
  watch : List Watch
  /-- The trap waits, by expiry (R48). -/
  trap : List TrapWait
  /-- The bypass counts (R104). -/
  bypass : PerRequester
  reclaimed : Nat
  untracked : Nat
  dropped : Nat
  /-- The sticky flag WATCH_FULL (R136). -/
  watchFull : Bool
deriving DecidableEq, Repr

/-! ## The passing log -/

/-- The outcomes of a sector (R119). -/
inductive SectorOutcome where
  | paired | unpaired
deriving DecidableEq, Repr

/-- The reasons of records (R170). -/
inductive Reason where
  | noFeeder | noClock | revisedOut | withdrawn | halted | revised | reversed | outOfWindow
deriving DecidableEq, Repr

/-- The lap result of a log entry (R150). -/
structure LapResult where
  count : Nat
  time : Int
  best : Bool
deriving DecidableEq, Repr

/-- The sector result of a log entry (R150). -/
structure SectorResult where
  outcome : SectorOutcome
  value : Option Nat
  reason : Option Reason
  tag : Option Tag
  flags : Flags
  amended : Bool
deriving DecidableEq, Repr

/-- The speed result of a log entry (R150). -/
structure SpeedResult where
  speed : Nat
  saturated : Bool
  exitFlags : Flags
deriving DecidableEq, Repr

/-- The notice owed by an UNSENT mark (R150). -/
inductive Owed where
  | passing | revise
deriving DecidableEq, Repr

/-- A log entry (R150). -/
structure LogEntry where
  number : Nat
  transponder : Nat
  slot : Option SlotNo
  instant : Time
  processed : Time
  flags : Flags
  peak : Option Nat
  peakChannel : Option Channel
  hitCount : Option Nat
  lap : Option LapResult
  sector : Option SectorResult
  speed : Option SpeedResult
  withdrawn : Bool
  retimed : Bool
  /-- The UNSENT mark with its owed notice. -/
  unsent : Option Owed
  /-- The MODEL's own: the slot has been cleared or reclaimed since the passing was processed in it (R98, R115, R127;
  notes/assumptions/43.md). -/
  released : Bool := false
deriving DecidableEq, Repr

/-- An occupied place of the ring: reserved for a number, or holding its entry (R149). -/
structure LogPlace where
  number : Nat
  entry : Option LogEntry
deriving DecidableEq, Repr

/-- The passing log (chapter 9). -/
structure LogBlock where
  /-- The next number to be drawn; none is EXHAUSTED (R147). -/
  counter : Option Nat
  /-- The occupied places, numbers rising. -/
  places : List LogPlace
deriving DecidableEq, Repr

/-! ## Records -/

/-- PASSING record (R118). -/
structure PassingRec where
  number : Nat
  slot : Option SlotNo
  transponder : Nat
  competitor : Nat
  instant : Time
  flags : Flags
  peak : Option Nat
  peakChannel : Option Channel
  hitCount : Option Nat
  lapCount : Option Nat
deriving DecidableEq, Repr

/-- LAP record (R115). -/
structure LapRec where
  slot : SlotNo
  transponder : Nat
  competitor : Nat
  number : Nat
  lapCount : Nat
  lapTime : Int
  bestLap : Int
  flags : Flags
deriving DecidableEq, Repr

/-- SECTOR record (R119). -/
structure SectorRec where
  slot : SlotNo
  transponder : Nat
  competitor : Nat
  number : Nat
  instant : Time
  tag : Option Tag
  feederInstant : Option Time
  outcome : SectorOutcome
  sector : Option Nat
  reason : Option Reason
  flags : Flags
deriving DecidableEq, Repr

/-- SPEED record (R51). -/
structure SpeedRec where
  slot : SlotNo
  transponder : Nat
  competitor : Nat
  entryNumber : Option Nat
  entryInstant : Option Time
  exitInstant : Option Time
  delta : Option Int
  speed : Option Nat
  reason : Option Reason
  flags : Flags
  entryFlags : Option Flags
  exitFlags : Option Flags
deriving DecidableEq, Repr

/-- What an AMEND record amends (R126). -/
inductive Amendment where
  | sector (tag : Option Tag) (value : Option Nat) (reason : Reason) (flags : Flags)
  | lap (count : Nat) (lastLap bestLap : Option Int) (flags : Flags)
  | withdrawn
  | retimed (instant : Time)
deriving DecidableEq, Repr

/-- AMEND record (R126). -/
structure AmendRec where
  slot : Option SlotNo
  transponder : Nat
  competitor : Nat
  number : Nat
  what : Amendment
deriving DecidableEq, Repr

/-- The events of a GUARD record, with the cause of a REOPEN (R13). -/
inductive GuardEvent where
  | trip
  | reopenQuiet (tripTime : Option Time)
  | reopenRearm (tripTime : Option Time)
deriving DecidableEq, Repr

/-- GUARD record (R13). -/
structure GuardRec where
  channel : Channel
  event : GuardEvent
  mode : GuardMode
  eventTime : Time
deriving DecidableEq, Repr

/-- The causes of a PEER record (R65). -/
inductive PeerCause where
  | firstSample | lock | rejections | silence | resumed
deriving DecidableEq, Repr

/-- PEER record (R65). -/
structure PeerRec where
  station : Nat
  previous : ClockState
  new : ClockState
  cause : PeerCause
  eventTime : Time
  offset : Int
  count : Nat
deriving DecidableEq, Repr

/-- The body of a record, one constructor for each kind (R173). -/
inductive RecordBody where
  | passing (r : PassingRec)
  | sector (r : SectorRec)
  | lap (r : LapRec)
  | speed (r : SpeedRec)
  | amend (r : AmendRec)
  | guard (r : GuardRec)
  | peer (r : PeerRec)
deriving DecidableEq, Repr

/-- A record of the report FIFO: its issue time and its body (R153). -/
structure Record where
  issued : Time
  body : RecordBody
deriving DecidableEq, Repr

/-- The record kinds (R173). -/
inductive RecordKind where
  | passing | sector | lap | speed | amend | guard | peer
deriving DecidableEq, Repr

/-- The fields of a locked overrun capture (R154). -/
structure OverrunCapture where
  kind : RecordKind
  number : Option Nat
  issued : Time
  moreLost : Bool
deriving DecidableEq, Repr

/-! ## Responses -/

/-- The response codes, in code order (11.3). -/
inductive ResponseCode where
  | ok | notReady | empty | busy | refusedState | badArgument | full | duplicate | gone | notYet | unknownCommand
deriving DecidableEq, Repr

/-- A slot as SLOT_READ and SNAPSHOT give it (R106). -/
structure SlotView where
  slotNo : SlotNo
  slot : Slot
  pending : Option PendingSector
  settle : Option SettleEntry
  watch : Option Watch
  trap : Option TrapWait
deriving DecidableEq, Repr

/-- A peer record as PEER_READ gives it, with the derived values (R70). -/
structure PeerView where
  peer : PeerRecord
  isFeeder : Bool
  lineDelay : Option Nat
  roundedOffset : Option Int
  time : Time
deriving DecidableEq, Repr

/-- A channel as STATUS_READ gives it (R166). -/
structure ChannelView where
  isOn : Bool
  guard : GuardState
  high : Bool
deriving DecidableEq, Repr

/-- What STATUS_READ gives (R166, with R40, R91, R109 and R146). -/
structure StatusView where
  state : StationState
  time : Time
  channels : PerChannel ChannelView
  nOpen : Nat
  nParked : Nat
  nClosing : Nat
  nLocal : Nat
  line : LineState
  nPassing : Nat
  nRevise : Nat
  nTime : Nat
  nStatus : Nat
  /-- The kind, by its code in the order of R91 (R172), and the collision count of the head notice. -/
  head : Option (Nat × Nat)
  nUnsent : Nat
  nIntake : Nat
  nFree : Nat
  nRosteredState : Nat
  nActive : Nat
  nRosteredFlag : Nat
  localWaiting : Bool
  lineWaiting : Bool
  timerWaiting : Bool
  portWaiting : Bool
  bypass : PerRequester
  reclaimed : Nat
  untracked : Nat
  dropped : Nat
  /-- Absent in UNCONFIGURED. -/
  arbiterMode : Option ArbiterMode
  nWatches : Nat
  nRecords : Nat
  overrunLocked : Bool
  faultLocked : Bool
  latest : Option Nat
  crowded : Bool
  lineOverrun : Bool
  watchFull : Bool
  clamped : Bool
deriving DecidableEq, Repr

/-- An item of a LOG_READ response (R152). -/
inductive LogItem where
  | present (e : LogEntry)
  | gone (number : Nat)
  | notYet (number : Nat)
deriving DecidableEq, Repr

/-- The body of a response (R172). -/
inductive ResponseBody where
  | nothing
  | config (p : Params) (clamped : Bool)
  | slotNumber (i : SlotNo)
  | freed (n : Nat)
  | passingNumber (n : Nat)
  | slot (time : Time) (v : SlotView)
  | snapshot (time : Time) (vs : List SlotView)
  | records (left : Nat) (overrunLocked : Bool) (rs : List Record)
  | log (time : Time) (latest : Option Nat) (items : List LogItem)
  | peer (v : PeerView)
  | status (v : StatusView)
  | fault (capture : Option FaultCapture)
  | overrun (capture : Option OverrunCapture)
deriving DecidableEq, Repr

/-- A response of the report port (11.3). -/
structure Response where
  code : ResponseCode
  body : ResponseBody
deriving DecidableEq, Repr

/-! ## The report port -/

/-- The commands that become PORT requests (R102), their arguments tested. -/
inductive PortCommand where
  | slotRead (i : SlotNo)
  | snapshot (first count : Nat)
  | rosterPut (transponder competitor : Nat)
  | rosterClear
  | withdraw (number : Nat)
  | retime (number : Nat) (time : Time)
  | mark (transponder : Nat) (time : Time)
  | startSession
  | halt
deriving DecidableEq, Repr

/-- A held command (R156): a PORT request with its arrival time, or a REPORT_READ with its count and read timer. -/
inductive HeldCommand where
  | request (cmd : PortCommand) (arrival : Time)
  | report (count : Nat) (due : Time)
deriving DecidableEq, Repr

/-- A made response (R156): one that is kept, or one whose records are taken at the poll that collects it (R157). -/
inductive MadeResponse where
  | kept (r : Response)
  | atPoll (count : Nat)
deriving DecidableEq, Repr

/-- The port states (R156). -/
inductive PortState where
  | ready
  | working (h : HeldCommand)
  | done (m : MadeResponse)
deriving DecidableEq, Repr

/-- The response of the transaction in progress, until the host deselects (R171). -/
structure Transaction where
  response : Response
  /-- The bytes of the response frame (11.3) that the part has still to shift out: all of them before the delivery, and those behind
  the code byte after it. -/
  frame : List Byte
  /-- Delivery collects a made response: the port becomes READY. -/
  collects : Bool
  /-- How many records leave the FIFO at delivery. -/
  takes : Nat
  /-- The code byte has been clocked out: the response is delivered (R171). -/
  delivered : Bool := false
deriving DecidableEq, Repr

/-- The report port (chapter 9). -/
structure ReportBlock where
  /-- The report FIFO, oldest first (R153). -/
  fifo : List Record
  /-- The overrun capture; none while unlocked (R154). -/
  overrun : Option OverrunCapture
  /-- ATTN: true is asserted (R155). -/
  attn : Bool
  port : PortState
  transaction : Option Transaction
deriving DecidableEq, Repr

/-! ## The whole -/

/-- The state of the station, and the commands that wait to reach it. -/
structure State where
  /-- The commands that wait, first in, first out. -/
  pending : List Instr
  /-- Station time (R55). -/
  now : Time
  station : StationBlock
  channels : ChannelBlock
  gather : GatherBlock
  clock : ClockBlock
  line : LineBlock
  table : TableBlock
  log : LogBlock
  report : ReportBlock
deriving DecidableEq, Repr

/-! ## Values after power-on reset -/

/-- A guard after reset: OPEN, LOW, no timer, no trip time (R17). -/
def Guard.initial : Guard := { state := .opened, high := false, filterDue := none, quietDue := none, tripTime := none }

/-- A peer record after reset (R59). -/
def PeerRecord.initial : PeerRecord :=
  { clock := .unheard, offset := none, count := 0, rejections := 0, lastHeard := none, staleDue := none, position := none,
    status := none }

/-- A FREE slot; its session parts stand at their initial values (R92, R93). -/
def Slot.empty : Slot :=
  { state := .free, transponder := none, competitor := 0, rostered := false, lastActivity := none, last := none,
    previous := none, lapCount := 0, lastLap := none, bestLap := none, bestBefore := none, feeder := none, spent := none,
    issued := none, expected := 0, confidence := 0 }

/-- Station control after reset (R159, R160, R162, R167). -/
def StationBlock.initial : StationBlock :=
  { conf := none, mode := .idle, clearingDue := none, haltDue := false, fault := none, clamped := false }

/-- The channels after reset (R17). -/
def ChannelBlock.initial : ChannelBlock := { guards := ⟨.initial, .initial, .initial⟩, resetAt := 0, held := [] }

/-- The gatherer after reset (R39). -/
def GatherBlock.initial : GatherBlock := { entries := [], queue := [], filter := [], crowded := false, closeCount := 0 }

/-- The clock unit after reset (R71). -/
def ClockBlock.initial : ClockBlock := { peers := Vector.replicate 31 .initial, timeDue := none, statusDue := none }

/-- The line controller after reset (R90). -/
def LineBlock.initial : LineBlock :=
  { state := .listening, queue := [], carrierSince := none, quietFrom := none, waitDue := none, attemptFrom := none,
    attemptEnd := none, frame := [], intake := [], overrun := false }

/-- The competitor table and the arbiter after reset (R108, R132, R145). -/
def TableBlock.initial : TableBlock :=
  { slots := Vector.replicate 128 .empty, pending := [], settle := [], watch := [], trap := [], bypass := ⟨0, 0, 0, 0⟩,
    reclaimed := 0, untracked := 0, dropped := 0, watchFull := false }

/-- The passing log after reset (R147, R149). -/
def LogBlock.initial : LogBlock := { counter := some 1, places := [] }

/-- The report port after reset (R158). -/
def ReportBlock.initial : ReportBlock :=
  { fifo := [], overrun := none, attn := false, port := .ready, transaction := none }

/-- The station right after power-on reset: UNCONFIGURED, station time 0, every block at its reset values (R162). -/
def State.reset : State :=
  { pending := [], now := 0, station := .initial, channels := .initial, gather := .initial, clock := .initial,
    line := .initial, table := .initial, log := .initial, report := .initial }

end Sys2Proof.Machine
end

