-- ==== Sys2Proof/Machine/Flags.lean ====
section
/-! DEFINITION. The flag word: the place of each flag, and its test and setting (R170). -/

namespace Sys2Proof.Machine

/-- The bit of a flag, counted from the least significant (R170). -/
def flagBit : Flag → Nat
  | .lowBattery => 0
  | .early => 1
  | .interrupted => 2
  | .stationary => 3
  | .weak => 4
  | .repeated => 5
  | .forecast => 6
  | .manual => 7
  | .retimed => 8
  | .untracked => 9
  | .best => 10
  | .short => 11
  | .clockSoft => 12
  | .revised => 13
  | .unsettled => 14
  | .saturated => 15

/-- The word with one flag alone. -/
def flagWord (f : Flag) : Flags := 1#16 <<< flagBit f

/-- Whether a word carries a flag. -/
def hasFlag (w : Flags) (f : Flag) : Bool := w.getLsbD (flagBit f)

/-- The word with a flag added. -/
def addFlag (w : Flags) (f : Flag) : Flags := w ||| flagWord f

/-- The word with a flag added where a condition holds. -/
def addFlagIf (b : Bool) (w : Flags) (f : Flag) : Flags := if b then addFlag w f else w

/-- The word without a flag. -/
def dropFlag (w : Flags) (f : Flag) : Flags := w &&& ~~~ flagWord f

/-- The flags of a sector with a value (R110, R116, R123): SHORT, CLOCK_SOFT and FORECAST. -/
def sectorFlags (short soft forecast : Bool) : Flags :=
  addFlagIf forecast (addFlagIf soft (addFlagIf short 0 .short) .clockSoft) .forecast

/-- The flags a SECTOR or AMEND SECTOR record may carry besides UNSETTLED (R119). -/
def sectorFlagMask : Flags := addFlag (sectorFlags true true true) .revised

/-- FREE VALUE: the flags of a SECTOR record with reason NO_CLOCK or WITHDRAWN that a feeder passing met, and of an AMEND SECTOR record
without a value. Nothing but the set they are taken from is stated (R119; notes/assumptions/14.md). -/
def unstatedFlags (number : Nat) (held : Flags) : Flags := Config.unstatedSectorFlags number held &&& sectorFlagMask

end Sys2Proof.Machine
end

