-- ==== Sys2Proof/Machine/Layout.lean ====
section
/-! DEFINITION. The layouts of chapter 11: codes, fields, the CRC, the loop line frame and its reception, the records, the log
items and the response frame. -/

namespace Sys2Proof.Machine

/-! ## Bytes -/

/-- `v` in `w` bytes, most significant byte first (chapter 11). -/
def toBytes : Nat → Nat → List Byte
  | 0, _ => []
  | w + 1, v => toBytes w (v / 256) ++ [BitVec.ofNat 8 v]

/-- The number that bytes spell, most significant first (chapter 11). -/
def fromBytes (bs : List Byte) : Nat := bs.foldl (fun n b => n * 256 + b.toNat) 0

/-- A signed value in `w` bytes, in two's complement (chapter 11). -/
def signedNat (w : Nat) (v : Int) : Nat := (v % (256 ^ w : Nat)).toNat

/-- The signed value that a number of `w` bytes stands for in two's complement (chapter 11). -/
def signedOfNat (w n : Nat) : Int := if 2 * n < 256 ^ w then n else (n : Int) - (256 ^ w : Nat)

/-! ## Bits on the line (R169) -/

/-- The bits of a byte as they go onto the line, most significant first (R169). -/
def byteBits (b : Byte) : List Bool := (List.range 8).map b.getMsbD

/-- The bits of bytes as they go onto the line (R169). -/
def lineBits (bs : List Byte) : List Bool := bs.flatMap byteBits

/-- The byte of eight bits, most significant first (R169). -/
def bitsByte (bits : List Bool) : Byte := BitVec.ofNat 8 (bits.foldl (fun n x => 2 * n + x.toNat) 0)

/-- The whole bytes that bits make; the bits of a byte that is not whole make none (R169; notes/assumptions/10.md). -/
def lineBytes : List Bool → List Byte
  | b₀ :: b₁ :: b₂ :: b₃ :: b₄ :: b₅ :: b₆ :: b₇ :: rest => bitsByte [b₀, b₁, b₂, b₃, b₄, b₅, b₆, b₇] :: lineBytes rest
  | _ => []

/-! ## Codes (R170, 11.1, 11.4) -/

def channelCode : Channel → Nat
  | .a => 1
  | .b => 2
  | .c => 3

/-- The channel of a code; none outside 1..3 (R172). -/
def channelOfCode : Nat → Option Channel
  | 1 => some .a
  | 2 => some .b
  | 3 => some .c
  | _ => none

def stationStateCode : StationState → Nat
  | .unconfigured => 1
  | .idle => 2
  | .clearing => 3
  | .running => 4
  | .halting => 5

def arrangementCode : Arrangement → Nat
  | .single => 1
  | .trap => 2
  | .splitAB => 3
  | .splitABC => 4

def clockStateCode : ClockState → Nat
  | .unheard => 1
  | .acquiring => 2
  | .locked => 3
  | .stale => 4

def peerCauseCode : PeerCause → Nat
  | .firstSample => 1
  | .lock => 2
  | .rejections => 3
  | .silence => 4
  | .resumed => 5

def guardModeCode : GuardMode → Nat
  | .auto => 1
  | .latched => 2

/-- The codes of the guard states, in the order in which R7 lists them (R172). -/
def guardStateCode : GuardState → Nat
  | .opened => 1
  | .watching => 2
  | .tripped => 3
  | .quieting => 4

/-- The codes of the level indication, in the order in which R7 lists them (R172). -/
def levelCode (high : Bool) : Nat := if high then 1 else 2

def sectorOutcomeCode : SectorOutcome → Nat
  | .paired => 1
  | .unpaired => 2

def reasonCode : Reason → Nat
  | .noFeeder => 1
  | .noClock => 2
  | .revisedOut => 3
  | .withdrawn => 4
  | .halted => 5
  | .revised => 6
  | .reversed => 7
  | .outOfWindow => 8

/-- The reason byte of a record: 0 where there is no reason (R170). -/
def reasonByte (r : Option Reason) : Nat := (r.map reasonCode).getD 0

def faultCodeNat : FaultCode → Nat
  | .duplicateStation => 1
  | .lineJammed => 2
  | .feederSilent => 3
  | .numbersExhausted => 4
  | .clockWrap => 5

/-- YES 1, NO 2 (R170). -/
def yesNoCode (b : Bool) : Nat := if b then 1 else 2

def admissionCode : Admission → Nat
  | .anyone => 1
  | .rosterOnly => 2

def arbiterModeCode : ArbiterMode → Nat
  | .localFirst => 1
  | .lineFirst => 2

def readModeCode : ReadMode → Nat
  | .wait => 1
  | .immediate => 2

/-- The configured arrangement (SINGLE, TRAP, SPLIT) and the SPLIT mask (none 0, AB, ABC) of an arrangement (R170, R172). -/
def configuredArrangement : Arrangement → Nat × Nat
  | .single => (1, 0)
  | .trap => (2, 0)
  | .splitAB => (3, 1)
  | .splitABC => (3, 2)

/-- The codes of the slot states, in the order in which R92 lists them (R172). -/
def slotStateCode : SlotState → Nat
  | .free => 1
  | .rostered => 2
  | .active => 3

/-- The codes of the line states, in the order of the table of 5.3 (R172). -/
def lineStateCode : LineState → Nat
  | .listening => 1
  | .deferring => 2
  | .sending => 3
  | .backoff => 4
  | .congested => 5
  | .jammed => 6

/-- The codes of the clock flag, in the order in which R89 lists them: none, CLOCK_SOFT, NO_CLOCK (R172). -/
def clockFlagCode : ClockFlag → Nat
  | .plain => 1
  | .soft => 2
  | .noClock => 3

/-- The codes of the sides of a trap wait, in the order in which R48 lists them (R172). -/
def trapSideCode : TrapSide → Nat
  | .entry => 1
  | .exit => 2

/-- The kind byte of a frame (11.1). -/
def noticeKindCode : NoticeBody → Nat
  | .time => 1
  | .passing .. => 2
  | .revise .. => 3
  | .status .. => 4

/-- The kind of the head notice in STATUS_READ: R170 lists no kinds of notices, and R91 lists them in this order (R172). -/
def headKindCode : NoticeBody → Nat
  | .passing .. => 1
  | .revise .. => 2
  | .time => 3
  | .status .. => 4

/-- The record kinds (R173). -/
def recordKindCode : RecordKind → Nat
  | .passing => 1
  | .sector => 2
  | .lap => 3
  | .speed => 4
  | .amend => 5
  | .guard => 6
  | .peer => 7

/-- The kind of a record. -/
def recordKind : RecordBody → RecordKind
  | .passing _ => .passing
  | .sector _ => .sector
  | .lap _ => .lap
  | .speed _ => .speed
  | .amend _ => .amend
  | .guard _ => .guard
  | .peer _ => .peer

/-- The response codes, from 0 (11.3). -/
def responseCodeNat : ResponseCode → Nat
  | .ok => 0
  | .notReady => 1
  | .empty => 2
  | .busy => 3
  | .refusedState => 4
  | .badArgument => 5
  | .full => 6
  | .duplicate => 7
  | .gone => 8
  | .notYet => 9
  | .unknownCommand => 10

/-! ## The loop line frame (11.1, R169) -/

/-- One bit step of the CRC with the polynomial x^16 + x^12 + x^5 + 1 (R169). -/
def crcStep (c : BitVec 16) : BitVec 16 := if c.msb then (c <<< 1) ^^^ 0x1021#16 else c <<< 1

/-- The CRC after one more byte, most significant bit first (R169). -/
def crcByte (c : BitVec 16) (b : Byte) : BitVec 16 :=
  crcStep (crcStep (crcStep (crcStep (crcStep (crcStep (crcStep (crcStep (c ^^^ (b.setWidth 16 <<< 8)))))))))

/-- The CRC of bytes, starting from 0xFFFF (R169). -/
def crc (bs : List Byte) : BitVec 16 := bs.foldl crcByte 0xFFFF#16

/-- The bytes of a STATUS body (11.1). -/
def statusBytes (f : StatusFields) : List Byte :=
  toBytes 1 f.stationState ++ toBytes 1 f.arrangement ++ toBytes 1 f.lapLine ++ toBytes 1 f.feeder1 ++ toBytes 1 f.feeder2 ++
    toBytes 1 f.feeder3 ++ toBytes 1 f.fault ++ toBytes 4 f.latest ++ toBytes 2 f.unsent

/-- The action byte and the new instant of a REVISE body (11.1). -/
def revisionBytes : Revision → List Byte
  | .retime t => toBytes 1 1 ++ toBytes 6 t.toNat
  | .withdraw => toBytes 1 2 ++ toBytes 6 0

/-- The body of a notice's frame; a TIME notice carries the send time and the sender's position (R57, 11.1). -/
def noticeBodyBytes (position : Nat) (sendTime : Time) : NoticeBody → List Byte
  | .time => toBytes 6 sendTime.toNat ++ toBytes 2 position
  | .status f => statusBytes f
  | .passing n t i fl => toBytes 4 n ++ toBytes 3 t ++ toBytes 6 i.toNat ++ toBytes 2 fl.toNat
  | .revise n t r => toBytes 4 n ++ toBytes 3 t ++ revisionBytes r

/-- Kind, origin and body of a frame: what the CRC covers (11.1). -/
def frameCore (origin position : Nat) (sendTime : Time) (b : NoticeBody) : List Byte :=
  toBytes 1 (noticeKindCode b) ++ toBytes 1 origin ++ noticeBodyBytes position sendTime b

/-- The start delimiter (11.1). -/
def startDelimiter : Byte := 0xC9#8

/-- Four preamble bytes and the start delimiter (11.1). -/
def frameLead : List Byte := [0xAA#8, 0xAA#8, 0xAA#8, 0xAA#8, startDelimiter]

/-- The bytes of a send attempt's frame: preamble, start delimiter, kind, origin, body and CRC (R169). -/
def frameBytes (origin position : Nat) (sendTime : Time) (b : NoticeBody) : List Byte :=
  frameLead ++ frameCore origin position sendTime b ++ toBytes 2 (crc (frameCore origin position sendTime b)).toNat

/-- A send attempt's frame as it goes onto the line, bit by bit (R169). -/
def buildFrame (origin position : Nat) (sendTime : Time) (b : NoticeBody) : List Bool :=
  lineBits (frameBytes origin position sendTime b)

/-- A frame that has passed the checks of R86, with its origin. -/
inductive RxNotice where
  | time (origin : Nat) (sendTime : Time) (position : Nat)
  | passing (origin number transponder : Nat) (instant : Time) (flags : Flags)
  | revise (origin number transponder : Nat) (action : Revision)
  | status (origin : Nat) (fields : StatusFields)
deriving DecidableEq, Repr

/-- The origin of a received notice. -/
def rxOrigin : RxNotice → Nat
  | .time o .. => o
  | .passing o .. => o
  | .revise o .. => o
  | .status o _ => o

/-- The bits after the first start delimiter, at whatever bit position it stands; none where there is no delimiter (R169). -/
def afterDelimiter : List Bool → Option (List Bool)
  | [] => none
  | b :: bs => if (b :: bs).take 8 = byteBits startDelimiter then some ((b :: bs).drop 8) else afterDelimiter bs

/-- The body length of a kind; none for a byte that is not one of the four kinds (11.1, R169). -/
def bodyLength : Nat → Option Nat
  | 1 => some 8
  | 2 => some 15
  | 3 => some 14
  | 4 => some 13
  | _ => none

/-- `w` bytes at place `i`, as a number. -/
def fieldAt (bs : List Byte) (i w : Nat) : Nat := fromBytes ((bs.drop i).take w)

/-- The fields of a STATUS body, as received (R169). -/
def statusOfBytes (b : List Byte) : StatusFields :=
  { stationState := fieldAt b 0 1, arrangement := fieldAt b 1 1, lapLine := fieldAt b 2 1, feeder1 := fieldAt b 3 1,
    feeder2 := fieldAt b 4 1, feeder3 := fieldAt b 5 1, fault := fieldAt b 6 1, latest := fieldAt b 7 4, unsent := fieldAt b 11 2 }

/-- Passing number not 0 and transponder id in 1..16,777,214 (R86). -/
def tagFieldsValid (number transponder : Nat) : Bool :=
  number != 0 && 1 ≤ transponder && transponder ≤ Config.lastTransponder

/-- The notice of a body of the right length; none where R86 discards the frame. -/
def noticeOfBody (kind origin : Nat) (b : List Byte) : Option RxNotice :=
  let number := fieldAt b 0 4
  let transponder := fieldAt b 4 3
  match kind with
  | 1 => some (.time origin (BitVec.ofNat 48 (fieldAt b 0 6)) (fieldAt b 6 2))
  | 2 =>
    if tagFieldsValid number transponder then
      some (.passing origin number transponder (BitVec.ofNat 48 (fieldAt b 7 6)) (BitVec.ofNat 16 (fieldAt b 13 2)))
    else none
  | 3 =>
    if tagFieldsValid number transponder then
      match fieldAt b 7 1 with
      | 1 => some (.revise origin number transponder (.retime (BitVec.ofNat 48 (fieldAt b 8 6))))
      | 2 => some (.revise origin number transponder .withdraw)
      | _ => none
    else none
  | 4 => some (.status origin (statusOfBytes b))
  | _ => none

/-- The notice of the bytes after the start delimiter, or none where R86 discards the frame: kind, length, CRC and origin are
checked, and then the fields of the kind (R86, R169). -/
def noticeOfBytes : List Byte → Option RxNotice
  | kind :: origin :: rest =>
    match bodyLength kind.toNat with
    | none => none
    | some len =>
      if rest.length = len + 2 ∧ (crc (kind :: origin :: rest.take len)).toNat = fromBytes (rest.drop len) ∧
          1 ≤ origin.toNat ∧ origin.toNat ≤ 31 then
        noticeOfBody kind.toNat origin.toNat (rest.take len)
      else none
  | _ => none

/-- The notice that the receive path takes from the bits on receive data, from the carrier's rise to its drop: it aligns on the first
start delimiter and takes the bytes after it (R86, R169). -/
def receiveFrame (signal : List Bool) : Option RxNotice := (afterDelimiter signal).bind (fun bits => noticeOfBytes (lineBytes bits))

/-! ## Request frames (11.3, R172) -/

/-- The widths of the arguments of CONFIGURE for one channel (R172). -/
def channelWidths : List Nat := [1, 1, 1, 1, 2]

/-- The widths of the arguments of CONFIGURE, in order (R172). -/
def configWidths : List Nat :=
  [1, 2, 1, 1, 1, 1, 1, 1, 2, 2] ++ channelWidths ++ channelWidths ++ channelWidths ++
    [2, 2, 1, 1, 1, 2, 2, 4, 4, 2, 2, 1, 1, 1, 1, 1, 1, 1, 1, 1, 1, 1]

/-- The widths of the arguments of each code, in order; none for a code of 21 or above (R171, R172). -/
def requestWidths : Nat → Option (List Nat)
  | 0 => some []
  | 1 => some configWidths
  | 2 => some []
  | 3 => some [3, 2]
  | 4 => some []
  | 5 => some []
  | 6 => some []
  | 7 => some []
  | 8 => some [1]
  | 9 => some [4, 1]
  | 10 => some [1]
  | 11 => some [1, 1]
  | 12 => some [1]
  | 13 => some []
  | 14 => some []
  | 15 => some []
  | 16 => some []
  | 17 => some [1]
  | 18 => some [4]
  | 19 => some [4, 6]
  | 20 => some [3, 6]
  | _ => none

/-- A code's own argument length (R171, R172). -/
def argLength (code : Nat) : Option Nat := (requestWidths code).map List.sum

/-! ## Fields with a presence mask (R172, R173) -/

/-- A field of a body: its width in bytes, whether it is optional, and its value where it is present. -/
structure Field where
  width : Nat
  optional : Bool
  value : Option Nat
deriving DecidableEq, Repr

/-- A field that is always there. -/
def req (w v : Nat) : Field := ⟨w, false, some v⟩

/-- An optional field. -/
def opt (w : Nat) (v : Option Nat) : Field := ⟨w, true, v⟩

/-- The bytes of a field; an absent field is sent as zeros (R172, R173). -/
def fieldBytes (f : Field) : List Byte := toBytes f.width (f.value.getD 0)

/-- The presence mask: bit i, from the least significant, for the i-th optional field in body order (R173). -/
def maskNat : List Field → Nat
  | [] => 0
  | f :: fs => if f.optional then (if f.value.isSome then 1 else 0) + 2 * maskNat fs else maskNat fs

/-- How many optional fields there are. -/
def optionalCount (fs : List Field) : Nat := fs.countP (·.optional)

/-- The bytes of fields without their mask. -/
def fieldsBytes (fs : List Field) : List Byte := fs.flatMap fieldBytes

/-- The bytes of a response body: a presence mask in as many whole bytes as its bits need, and the fields (R172). The bits of the mask
are counted from the least significant, as R173 counts those of a record (DEDUCED, notes/assumptions/19.md). -/
def maskedBytes (fs : List Field) : List Byte := toBytes ((optionalCount fs + 7) / 8) (maskNat fs) ++ fieldsBytes fs

/-- A feeder tag as a number of 5 bytes: origin, number (R173). -/
def tagNat (t : Tag) : Nat := t.origin * 256 ^ 4 + t.number

def boolNat (b : Bool) : Nat := if b then 1 else 0

def slotField (i : SlotNo) : Field := req 1 i.val
def timeField (t : Time) : Field := req 6 t.toNat
def flagsField (w : Flags) : Field := req 2 w.toNat
def boolField (b : Bool) : Field := req 1 (boolNat b)
def optTime (t : Option Time) : Field := opt 6 (t.map (·.toNat))
def optFlags (w : Option Flags) : Field := opt 2 (w.map (·.toNat))
def optTag (t : Option Tag) : Field := opt 5 (t.map tagNat)
/-- A lap time, of 6 bytes (R173). -/
def lapField (t : Int) : Field := req 6 (signedNat 6 t)
def optLap (t : Option Int) : Field := opt 6 (t.map (signedNat 6))

/-! ## Records (R173) -/

/-- The body of a record, field by field (R173). The Δt of a SPEED record has 4 bytes, and the manual does not say what they carry where
the difference of the instants lies outside -2^31..2^31 - 1, which an entry passing retimed far back reaches: the model sends the
difference modulo 2^32 (DESIGN CHOICE, notes/assumptions/38.md). -/
def recordFields : RecordBody → List Field
  | .passing r =>
    [req 4 r.number, opt 1 (r.slot.map (·.val)), req 3 r.transponder, req 2 r.competitor, timeField r.instant,
      flagsField r.flags, opt 1 r.peak, opt 1 (r.peakChannel.map channelCode), opt 2 r.hitCount, opt 2 r.lapCount]
  | .lap r =>
    [slotField r.slot, req 3 r.transponder, req 2 r.competitor, req 4 r.number, req 2 r.lapCount, lapField r.lapTime,
      lapField r.bestLap, flagsField r.flags]
  | .sector r =>
    [slotField r.slot, req 3 r.transponder, req 2 r.competitor, req 4 r.number, timeField r.instant, optTag r.tag,
      optTime r.feederInstant, req 1 (sectorOutcomeCode r.outcome), opt 4 r.sector, req 1 (reasonByte r.reason),
      flagsField r.flags]
  | .speed r =>
    [slotField r.slot, req 3 r.transponder, req 2 r.competitor, opt 4 r.entryNumber, optTime r.entryInstant,
      optTime r.exitInstant, opt 4 (r.delta.map (signedNat 4)), opt 2 r.speed, req 1 (reasonByte r.reason),
      flagsField r.flags, optFlags r.entryFlags, optFlags r.exitFlags]
  | .amend r =>
    let who := [req 1 ((r.slot.map (·.val)).getD 0), req 3 r.transponder, req 2 r.competitor, req 4 r.number]
    match r.what with
    | .sector tag v reason fl => req 1 1 :: who ++ [optTag tag, opt 4 v, req 1 (reasonCode reason), flagsField fl]
    | .lap n l b fl => req 1 2 :: who ++ [req 2 n, optLap l, optLap b, flagsField fl]
    | .withdrawn => req 1 3 :: who ++ [req 1 1, optTime none]
    | .retimed t => req 1 3 :: who ++ [req 1 2, optTime (some t)]
  | .guard r =>
    match r.event with
    | .trip => [req 1 (channelCode r.channel), req 1 1, req 1 0, req 1 (guardModeCode r.mode), timeField r.eventTime, optTime none]
    | .reopenQuiet t =>
      [req 1 (channelCode r.channel), req 1 2, req 1 1, req 1 (guardModeCode r.mode), timeField r.eventTime, optTime t]
    | .reopenRearm t =>
      [req 1 (channelCode r.channel), req 1 2, req 1 2, req 1 (guardModeCode r.mode), timeField r.eventTime, optTime t]
  | .peer r =>
    [req 1 r.station, req 1 (clockStateCode r.previous), req 1 (clockStateCode r.new), req 1 (peerCauseCode r.cause),
      timeField r.eventTime, req 6 (signedNat 6 r.offset), req 2 r.count]

/-- A record as REPORT_READ gives it: kind, body length, issue time, presence mask and body (R173). -/
def recordBytes (r : Record) : List Byte :=
  let fs := recordFields r.body
  toBytes 1 (recordKindCode (recordKind r.body)) ++ toBytes 1 (fieldsBytes fs).length ++ toBytes 6 r.issued.toNat ++
    toBytes 2 (maskNat fs) ++ fieldsBytes fs

/-! ## Log items (R173) -/

/-- The mark byte of a log item (R173). -/
def markByte (e : LogEntry) : Nat :=
  boolNat e.withdrawn + 2 * boolNat e.retimed + 4 * boolNat e.unsent.isSome + 8 * boolNat (e.unsent == some .revise) +
    16 * boolNat ((e.sector.map (·.amended)).getD false)

/-- The lap flags of a log entry. -/
def lapFlags (l : LapResult) : Flags := addFlagIf l.best 0 .best

/-- The speed flags of a log entry: SATURATED and the exit flags (R51). -/
def speedFlags (v : SpeedResult) : Flags := addFlagIf v.saturated v.exitFlags .saturated

/-- The fields of a PRESENT item (R173). -/
def logFields (e : LogEntry) : List Field :=
  [req 4 e.number, req 3 e.transponder, opt 1 (e.slot.map (·.val)), timeField e.instant, timeField e.processed,
    flagsField e.flags, opt 1 e.peak, opt 1 (e.peakChannel.map channelCode), opt 2 e.hitCount,
    opt 2 (e.lap.map (·.count)), optLap (e.lap.map (·.time)), optFlags (e.lap.map lapFlags),
    opt 1 (e.sector.map (fun r => sectorOutcomeCode r.outcome)), opt 4 (e.sector.bind (·.value)),
    opt 1 (e.sector.bind (fun r => r.reason.map reasonCode)), optTag (e.sector.bind (·.tag)),
    optFlags (e.sector.map (·.flags)), opt 2 (e.speed.map (·.speed)), optFlags (e.speed.map speedFlags),
    req 1 (markByte e)]

/-- A LOG_READ item (R173). -/
def logItemBytes : LogItem → List Byte
  | .present e => toBytes 1 1 ++ toBytes 2 (maskNat (logFields e)) ++ fieldsBytes (logFields e)
  | .gone n => toBytes 1 2 ++ toBytes 4 n
  | .notYet n => toBytes 1 3 ++ toBytes 4 n

/-! ## Response bodies (R172) -/

/-- The fields of a feeder record or spent feeder (R93, R106). -/
def feederFields (r : Option FeederRecord) : List Field :=
  [optTag (r.map (·.tag)), optTime (r.bind (·.instant)), opt 1 (r.map (fun f => clockFlagCode f.clock)),
    optFlags (r.map (·.flags))]

/-- The identity fields and the session parts of a slot, and what its links refer to, in the order of R106
(notes/assumptions/19.md). No rule gives the confidence c a width: it is sent in 2 bytes, as a count (DESIGN CHOICE,
notes/assumptions/50.md). The cause that cleared a hold is one code, RETIME 1 or WITHDRAW 2; the new converted instant and the clock
flag that a RETIME cause holds are not sent: R106 names the cause alone (DESIGN CHOICE, notes/assumptions/39.md). -/
def slotFields (v : SlotView) : List Field :=
  let s := v.slot
  let held (n : Nat) : Option Nat := if s.state = .free then none else some n
  [req 1 (slotStateCode s.state), opt 3 s.transponder, opt 2 (held s.competitor), opt 1 (held (boolNat s.rostered)),
    optTime s.lastActivity,
    opt 4 (s.last.map (·.number)), optTime (s.last.map (·.instant)), optFlags (s.last.map (·.flags)),
    opt 4 (s.last.bind (·.span)),
    opt 4 (s.previous.map (·.1)), optTime (s.previous.map (·.2)),
    opt 2 (held s.lapCount), optLap s.lastLap, optLap s.bestLap, optLap s.bestBefore] ++
  feederFields s.feeder ++ feederFields s.spent ++
  [opt 4 (s.issued.map (·.number)), optTag (s.issued.bind (·.tag)), opt 4 (s.issued.bind (·.value)),
    optFlags (s.issued.map (·.flags)), opt 4 (held s.expected), opt 2 (held s.confidence),
    opt 4 (v.pending.map (·.number)), optTime (v.pending.map (·.instant)), optTime (v.pending.map (·.expiry)),
    opt 4 (v.settle.map (·.number)), optTag (v.settle.map (·.tag)), opt 4 (v.settle.map (·.sector)),
    optFlags (v.settle.map (·.flags)), opt 1 (v.settle.map (fun e => boolNat (e.hold == .held))),
    opt 1 (v.settle.bind (fun e => match e.hold with
      | .held => none
      | .retimed .. => some 1
      | .withdrawn => some 2)),
    optTime (v.settle.map (·.expiry)),
    optTime (v.watch.map (·.dueTime)), optTag (v.watch.map (·.tag)), opt 4 (v.watch.map (·.expected)),
    opt 1 (v.trap.map (fun w => trapSideCode w.side)), optTime (v.trap.map (·.instant)), opt 4 (v.trap.bind (·.number)),
    optFlags (v.trap.map (·.flags)), optTime (v.trap.map (·.expiry))]

/-- The three channels' values of one parameter. -/
def eachChannel (p : PerChannel ChannelParams) (f : ChannelParams → Field) : List Field := [f p.a, f p.b, f p.c]

/-- The parameters of CONFIG_READ in the order of R160, and CLAMPED (R161, R172). The feeders named stand in the first of the three
feeder bytes and zeros behind them (DESIGN CHOICE, notes/assumptions/49.md). -/
def configFields (p : Params) (clamped : Bool) : List Field :=
  [req 1 p.stationNumber, req 2 p.position, req 1 (configuredArrangement p.arrangement).1,
    req 1 (configuredArrangement p.arrangement).2, req 1 (p.feeders.getD 0 0), req 1 (p.feeders.getD 1 0),
    req 1 (p.feeders.getD 2 0), req 1 (yesNoCode p.lapLine), req 2 p.trapDistance, req 2 p.trapWindow] ++
  eachChannel p.channels (fun c => req 1 c.threshold) ++ eachChannel p.channels (fun c => req 1 c.guardLevel) ++
  eachChannel p.channels (fun c => req 1 c.filterWidth) ++ eachChannel p.channels (fun c => req 1 (guardModeCode c.guardMode)) ++
  eachChannel p.channels (fun c => req 2 c.quietTime) ++
  [req 2 p.closeGap, req 2 p.maxDwell, req 1 (admissionCode p.admission), req 1 p.floorFraction, req 1 p.minimumHits,
    req 2 (signedNat 2 p.calibration), req 2 p.repeatWindow, req 4 p.minSector, req 4 p.maxSector, req 2 p.pairWait,
    req 2 p.settleTime, req 1 p.tolerance, req 1 p.confidenceMax, req 1 p.forecastThreshold, req 1 p.slack,
    req 1 (arbiterModeCode p.arbiterMode), req 1 p.bypassLimit, req 1 p.portPromotion, req 1 p.fifoThreshold,
    req 1 (readModeCode p.readMode), req 1 p.readTimeout, req 1 p.attentionAge, boolField clamped]

/-- The fields of PEER_READ, in the order of R59 and R70 (notes/assumptions/19.md). The status fields take a presence bit for each byte
or number sent, nine in all (DESIGN CHOICE, notes/assumptions/51.md), and whether the station is a feeder is sent as set or clear, 1 or
0 (DESIGN CHOICE, notes/assumptions/48.md). -/
def peerFields (v : PeerView) : List Field :=
  let r := v.peer
  let st (f : StatusFields → Nat) : Option Nat := r.status.map (fun x => f x.1)
  [req 1 (clockStateCode r.clock), opt 6 (r.offset.map (signedNat 6)), req 2 r.count, req 2 r.rejections,
    optTime r.lastHeard, optTime r.staleDue, opt 2 r.position,
    opt 1 (st (·.stationState)), opt 1 (st (·.arrangement)), opt 1 (st (·.lapLine)), opt 1 (st (·.feeder1)),
    opt 1 (st (·.feeder2)), opt 1 (st (·.feeder3)), opt 1 (st (·.fault)), opt 4 (st (·.latest)), opt 2 (st (·.unsent)),
    optTime (r.status.map (·.2)),
    boolField v.isFeeder, opt 4 v.lineDelay, opt 6 (v.roundedOffset.map (signedNat 6)), timeField v.time]

/-- The fields of STATUS_READ, in the order of R166 with R40, R91, R109 and R146 (notes/assumptions/19.md). Whether a channel is on, and
whether a capture is locked, are sent as values that are set or clear, 1 or 0 (DESIGN CHOICE, notes/assumptions/48.md). R166 names the
counts of R40, the values of R91 and R109 and the watch count of R146: LINE-waiting and LINE_OVERRUN, which R91 lists, are sent there and
again where R109 and R166 list them, and LOCAL-waiting, CROWDED and WATCH_FULL, no counts, once (DEDUCED, notes/assumptions/52.md). No
latest number is sent as a presence bit that is clear (DESIGN CHOICE, notes/assumptions/51.md). -/
def statusViewFields (v : StatusView) : List Field :=
  let ch (c : ChannelView) : List Field := [boolField c.isOn, req 1 (guardStateCode c.guard), req 1 (levelCode c.high)]
  [req 1 (stationStateCode v.state), timeField v.time] ++ ch v.channels.a ++ ch v.channels.b ++ ch v.channels.c ++
  [req 2 v.nOpen, req 2 v.nParked, req 2 v.nClosing, req 2 v.nLocal,
    req 1 (lineStateCode v.line), req 2 v.nPassing, req 2 v.nRevise, req 2 v.nTime, req 2 v.nStatus,
    opt 1 (v.head.map (·.1)), opt 2 (v.head.map (·.2)), req 2 v.nUnsent, req 2 v.nIntake, boolField v.lineWaiting,
    boolField v.lineOverrun,
    req 2 v.nFree, req 2 v.nRosteredState, req 2 v.nActive, req 2 v.nRosteredFlag,
    boolField v.localWaiting, boolField v.lineWaiting, boolField v.timerWaiting, boolField v.portWaiting,
    req 2 v.bypass.loc, req 2 v.bypass.line, req 2 v.bypass.timer, req 2 v.bypass.port,
    req 2 v.reclaimed, req 2 v.untracked, req 2 v.dropped, opt 1 (v.arbiterMode.map arbiterModeCode),
    req 2 v.nWatches, req 2 v.nRecords, boolField v.overrunLocked, boolField v.faultLocked, opt 4 v.latest,
    boolField v.crowded, boolField v.lineOverrun, boolField v.watchFull, boolField v.clamped]

/-- The fields of the fault capture (R168); locked or unlocked is sent as 1 or 0 (DESIGN CHOICE, notes/assumptions/48.md), and the
detail, a station number, in 1 byte (DEDUCED, notes/assumptions/19.md). LOST is an optional value, absent while the capture is unlocked
(DESIGN CHOICE, notes/assumptions/51.md). -/
def faultFields (c : Option FaultCapture) : List Field :=
  [boolField c.isSome, opt 1 (c.map (fun f => faultCodeNat f.code)), optTime (c.map (·.time)), opt 1 (c.bind (·.detail)),
    opt 1 (c.map (fun f => boolNat f.lost))]

/-- The fields of the overrun capture (R154); locked or unlocked is sent as 1 or 0 (DESIGN CHOICE, notes/assumptions/48.md), and
MORE_LOST is an optional value, absent while the capture is unlocked (DESIGN CHOICE, notes/assumptions/51.md). -/
def overrunFields (c : Option OverrunCapture) : List Field :=
  [boolField c.isSome, opt 1 (c.map (fun f => recordKindCode f.kind)), opt 4 (c.bind (·.number)), optTime (c.map (·.issued)),
    opt 1 (c.map (fun f => boolNat f.moreLost))]

/-- The body of a response in bytes (R172). SNAPSHOT gives the station time of its grant once, before the slots, and no time with each
slot: R107 names one time, and the form of R106 is taken without its own (DESIGN CHOICE, notes/assumptions/40.md). -/
def responseBodyBytes : ResponseBody → List Byte
  | .nothing => []
  | .config p c => maskedBytes (configFields p c)
  | .slotNumber i => toBytes 1 i.val
  | .freed n => toBytes 2 n
  | .passingNumber n => toBytes 4 n
  | .slot t v => maskedBytes (slotField v.slotNo :: timeField t :: slotFields v)
  | .snapshot t vs => maskedBytes (timeField t :: vs.flatMap (fun v => slotField v.slotNo :: slotFields v))
  | .records left locked rs => toBytes 2 left ++ toBytes 1 (boolNat locked) ++ rs.flatMap recordBytes
  | .log t latest items => toBytes 6 t.toNat ++ toBytes 4 (latest.getD 0) ++ items.flatMap logItemBytes
  | .peer v => maskedBytes (peerFields v)
  | .status v => maskedBytes (statusViewFields v)
  | .fault c => maskedBytes (faultFields c)
  | .overrun c => maskedBytes (overrunFields c)

/-- The response frame: response code, body length and body (11.3). -/
def responseFrame (r : Response) : List Byte :=
  toBytes 1 (responseCodeNat r.code) ++ toBytes 2 (responseBodyBytes r.body).length ++ responseBodyBytes r.body

end Sys2Proof.Machine
end

