-- ==== Sys2Proof/WellFormed.lean ====
section
/-! DEFINITION. Which commands are well formed: their operands lie in the widths the manual gives them. A value inside its width and
outside its range is well formed, and the command's own rule answers it. -/

namespace Sys2Proof

/-- A number of `w` bytes. -/
def fitsBytes (w n : Nat) : Bool := decide (n < 256 ^ w)

/-- A burst's id has 24 bits, and strengths lie in 0..255 (R3 to R5). -/
def Burst.wellFormed (b : Burst) : Bool := fitsBytes 3 b.id && fitsBytes 1 b.strength && b.overlaps.all (fitsBytes 1)

/-- A key names a transponder id of 1..16,777,214 (R4). -/
def PassKey.wellFormed (k : PassKey) : Bool := decide (1 ≤ k.transponder) && decide (k.transponder ≤ Config.lastTransponder)

/-- The arguments of one channel lie in their widths (R172). -/
def ChannelArgs.wellFormed (c : ChannelArgs) : Bool :=
  fitsBytes 1 c.threshold && fitsBytes 1 c.guardLevel && fitsBytes 1 c.filterWidth && fitsBytes 1 c.guardMode && fitsBytes 2 c.quietTime

/-- The arguments of CONFIGURE lie in their widths (R172). -/
def ConfigArgs.wellFormed (a : ConfigArgs) : Bool :=
  fitsBytes 1 a.stationNumber && fitsBytes 2 a.position && fitsBytes 1 a.arrangement && fitsBytes 1 a.splitMask &&
  fitsBytes 1 a.feeder1 && fitsBytes 1 a.feeder2 && fitsBytes 1 a.feeder3 && fitsBytes 1 a.lapLine &&
  fitsBytes 2 a.trapDistance && fitsBytes 2 a.trapWindow &&
  a.channels.a.wellFormed && a.channels.b.wellFormed && a.channels.c.wellFormed &&
  fitsBytes 2 a.closeGap && fitsBytes 2 a.maxDwell && fitsBytes 1 a.admission && fitsBytes 1 a.floorFraction &&
  fitsBytes 1 a.minimumHits && decide (-32768 ≤ a.calibration) && decide (a.calibration ≤ 32767) &&
  fitsBytes 2 a.repeatWindow && fitsBytes 4 a.minSector && fitsBytes 4 a.maxSector && fitsBytes 2 a.pairWait &&
  fitsBytes 2 a.settleTime && fitsBytes 1 a.tolerance && fitsBytes 1 a.confidenceMax && fitsBytes 1 a.forecastThreshold &&
  fitsBytes 1 a.slack && fitsBytes 1 a.arbiterMode && fitsBytes 1 a.bypassLimit && fitsBytes 1 a.portPromotion &&
  fitsBytes 1 a.fifoThreshold && fitsBytes 1 a.readMode && fitsBytes 1 a.readTimeout && fitsBytes 1 a.attentionAge

/-- Carrier levels lie in 0..255 (R7). -/
def levelsWellFormed (l : PerChannel Nat) : Bool := fitsBytes 1 l.a && fitsBytes 1 l.b && fitsBytes 1 l.c

/-- A station number of 1..31 (R1, R59). -/
def stationWellFormed (n : Nat) : Bool := decide (1 ≤ n) && decide (n ≤ 31)

/-- The command's operands lie in the widths the manual gives them. -/
def Instr.wellFormed : Instr → Bool
  | .powerOnReset => true
  | .burstEnd _ burst => burst.wellFormed
  | .hitDelivery _ _ => true
  | .risingCrossing _ => true
  | .fallingCrossing _ => true
  | .filterExpiry _ => true
  | .quietExpiry _ => true
  | .guardRearm channelCode => fitsBytes 1 channelCode
  | .silenceExpiry key => key.wellFormed
  | .dwellExpiry key => key.wellFormed
  | .staleExpiry station => stationWellFormed station
  | .clockWrap => true
  | .timeIntervalExpiry => true
  | .statusIntervalExpiry => true
  | .statusPromotion => true
  | .carrierRise => true
  | .carrierDrop => true
  | .attemptStart => true
  | .attemptComplete => true
  | .collision _ => true
  | .backoffEnd => true
  | .congestionEnd => true
  | .lineJammed => true
  | .frameReceived _ _ => true
  | .pairWaitDue _ => true
  | .settleDue _ => true
  | .watchDue _ => true
  | .trapWaitDue _ => true
  | .localGrant => true
  | .lineGrant => true
  | .timerGrant => true
  | .portGrant => true
  | .configure args levels => args.wellFormed && levelsWellFormed levels
  | .configRead => true
  | .restart => true
  | .startSession => true
  | .clearingEnd => true
  | .halt => true
  | .stationHalt => true
  | .rosterPut transponder competitor => fitsBytes 3 transponder && fitsBytes 2 competitor
  | .rosterClear => true
  | .slotRead slot => fitsBytes 1 slot
  | .snapshot first count => fitsBytes 1 first && fitsBytes 1 count
  | .withdraw number => fitsBytes 4 number
  | .retime number time => fitsBytes 4 number && fitsBytes 6 time
  | .mark transponder time => fitsBytes 3 transponder && fitsBytes 6 time
  | .reportRead count => fitsBytes 1 count
  | .readTimerExpiry => true
  | .attentionAgeExpiry => true
  | .poll => true
  | .unknownCommand code length =>
    fitsBytes 1 code && fitsBytes 1 length && Machine.argLength code != some length
  | .deselect => true
  | .logRead first count => fitsBytes 4 first && fitsBytes 1 count
  | .peerRead station => fitsBytes 1 station
  | .statusRead => true
  | .faultRead => true
  | .faultClear => true
  | .overrunClear => true
  | .responseDelivered => true

end Sys2Proof
end

