-- ==== Sys2Proof/Decode.lean ====
section
/-! DEFINITION. Decoding. The opcode table gives no row any bits, so no word of it spells a command; the request frames of the report
port (11.3, R171, R172) are decoded and encoded byte for byte. -/

namespace Sys2Proof

/-- The command that a word spells by the bits of spec/opcode_table.json: no row of the table has bits, so none
(notes/assumptions/27.md). -/
def decodeTableWord (_nbits _w : Nat) : Option Instr := none

namespace Machine

/-- Bytes cut into numbers of the given widths (R172). -/
def splitFields : List Nat → List Byte → List Nat
  | [], _ => []
  | w :: ws, bs => fromBytes (bs.take w) :: splitFields ws (bs.drop w)

/-- Numbers of the given widths laid out in order (R172). -/
def joinFields : List Nat → List Nat → List Byte
  | w :: ws, v :: vs => toBytes w v ++ joinFields ws vs
  | _, _ => []

/-- The arguments of a channel as numbers, in order (R172). -/
def channelArgFields (c : ChannelArgs) : List Nat := [c.threshold, c.guardLevel, c.filterWidth, c.guardMode, c.quietTime]

/-- The arguments of CONFIGURE as numbers, in order; the calibration in two's complement (R172). -/
def configArgFields (a : ConfigArgs) : List Nat :=
  [a.stationNumber, a.position, a.arrangement, a.splitMask, a.feeder1, a.feeder2, a.feeder3, a.lapLine, a.trapDistance,
    a.trapWindow] ++
  channelArgFields a.channels.a ++ channelArgFields a.channels.b ++ channelArgFields a.channels.c ++
  [a.closeGap, a.maxDwell, a.admission, a.floorFraction, a.minimumHits, signedNat 2 a.calibration, a.repeatWindow, a.minSector,
    a.maxSector, a.pairWait, a.settleTime, a.tolerance, a.confidenceMax, a.forecastThreshold, a.slack, a.arbiterMode,
    a.bypassLimit, a.portPromotion, a.fifoThreshold, a.readMode, a.readTimeout, a.attentionAge]

/-- The arguments of the channel whose first argument is number `k`. -/
def channelArgsAt (f : Nat → Nat) (k : Nat) : ChannelArgs :=
  { threshold := f k, guardLevel := f (k + 1), filterWidth := f (k + 2), guardMode := f (k + 3), quietTime := f (k + 4) }

/-- The arguments of CONFIGURE from numbers in order, `f k` being number k (R172). -/
def configArgsOf (f : Nat → Nat) : ConfigArgs :=
  { stationNumber := f 0, position := f 1, arrangement := f 2, splitMask := f 3, feeder1 := f 4, feeder2 := f 5, feeder3 := f 6,
    lapLine := f 7, trapDistance := f 8, trapWindow := f 9,
    channels := ⟨channelArgsAt f 10, channelArgsAt f 15, channelArgsAt f 20⟩,
    closeGap := f 25, maxDwell := f 26, admission := f 27, floorFraction := f 28, minimumHits := f 29,
    calibration := signedOfNat 2 (f 30), repeatWindow := f 31, minSector := f 32, maxSector := f 33, pairWait := f 34,
    settleTime := f 35, tolerance := f 36, confidenceMax := f 37, forecastThreshold := f 38, slack := f 39, arbiterMode := f 40,
    bypassLimit := f 41, portPromotion := f 42, fifoThreshold := f 43, readMode := f 44, readTimeout := f 45, attentionAge := f 46 }

/-- The command of a code with arguments `f 0`, `f 1`, … (R172); the levels are those that the channels measure at CONFIGURE (R17). -/
def commandOf (levels : PerChannel Nat) (code : Nat) (f : Nat → Nat) : Option Instr :=
  match code with
  | 0 => some .poll
  | 1 => some (.configure (configArgsOf f) levels)
  | 2 => some .configRead
  | 3 => some (.rosterPut (f 0) (f 1))
  | 4 => some .rosterClear
  | 5 => some .startSession
  | 6 => some .halt
  | 7 => some .restart
  | 8 => some (.reportRead (f 0))
  | 9 => some (.logRead (f 0) (f 1))
  | 10 => some (.slotRead (f 0))
  | 11 => some (.snapshot (f 0) (f 1))
  | 12 => some (.peerRead (f 0))
  | 13 => some .statusRead
  | 14 => some .faultRead
  | 15 => some .faultClear
  | 16 => some .overrunClear
  | 17 => some (.guardRearm (f 0))
  | 18 => some (.withdraw (f 0))
  | 19 => some (.retime (f 0) (f 1))
  | 20 => some (.mark (f 0) (f 1))
  | _ => none

/-- The command of a complete request of this code and these argument bytes (R171). -/
def commandOfRequest (levels : PerChannel Nat) (code : Nat) (args : List Byte) : Option Instr :=
  match requestWidths code with
  | some ws =>
    if ws.sum = args.length then commandOf levels code (fun k => (splitFields ws args).getD k 0)
    else some (.unknownCommand code args.length)
  | none => some (.unknownCommand code args.length)

/-- The command of a request frame (11.3): none until its last argument byte has been clocked in, and none of bytes clocked after it
(R171). -/
def decodeRequest (levels : PerChannel Nat) : List Byte → Option Instr
  | code :: len :: args => if args.length = len.toNat then commandOfRequest levels code.toNat args else none
  | _ => none

/-- The request frame of a code with its arguments (11.3, R172). -/
def requestFrame (code : Nat) (args : List Nat) : List Byte :=
  let bs := joinFields ((requestWidths code).getD []) args
  toBytes 1 code ++ toBytes 1 bs.length ++ bs

/-- The request frame of a command or poll of the report port (11.3, R172); none for a row that is no request of the host. -/
def encodeRequest : Instr → Option (List Byte)
  | .poll => some (requestFrame 0 [])
  | .configure args _ => some (requestFrame 1 (configArgFields args))
  | .configRead => some (requestFrame 2 [])
  | .rosterPut transponder competitor => some (requestFrame 3 [transponder, competitor])
  | .rosterClear => some (requestFrame 4 [])
  | .startSession => some (requestFrame 5 [])
  | .halt => some (requestFrame 6 [])
  | .restart => some (requestFrame 7 [])
  | .reportRead count => some (requestFrame 8 [count])
  | .logRead first count => some (requestFrame 9 [first, count])
  | .slotRead slot => some (requestFrame 10 [slot])
  | .snapshot first count => some (requestFrame 11 [first, count])
  | .peerRead station => some (requestFrame 12 [station])
  | .statusRead => some (requestFrame 13 [])
  | .faultRead => some (requestFrame 14 [])
  | .faultClear => some (requestFrame 15 [])
  | .overrunClear => some (requestFrame 16 [])
  | .guardRearm channelCode => some (requestFrame 17 [channelCode])
  | .withdraw number => some (requestFrame 18 [number])
  | .retime number time => some (requestFrame 19 [number, time])
  | .mark transponder time => some (requestFrame 20 [transponder, time])
  | .unknownCommand code length => some (toBytes 1 code ++ toBytes 1 length ++ List.replicate length 0)
  | .powerOnReset => none
  | .burstEnd _ _ => none
  | .hitDelivery _ _ => none
  | .risingCrossing _ => none
  | .fallingCrossing _ => none
  | .filterExpiry _ => none
  | .quietExpiry _ => none
  | .silenceExpiry _ => none
  | .dwellExpiry _ => none
  | .staleExpiry _ => none
  | .clockWrap => none
  | .timeIntervalExpiry => none
  | .statusIntervalExpiry => none
  | .statusPromotion => none
  | .carrierRise => none
  | .carrierDrop => none
  | .attemptStart => none
  | .attemptComplete => none
  | .collision _ => none
  | .backoffEnd => none
  | .congestionEnd => none
  | .lineJammed => none
  | .frameReceived _ _ => none
  | .pairWaitDue _ => none
  | .settleDue _ => none
  | .watchDue _ => none
  | .trapWaitDue _ => none
  | .localGrant => none
  | .lineGrant => none
  | .timerGrant => none
  | .portGrant => none
  | .clearingEnd => none
  | .stationHalt => none
  | .readTimerExpiry => none
  | .attentionAgeExpiry => none
  | .deselect => none
  | .responseDelivered => none

end Machine

end Sys2Proof
end

