-- ==== Sys2Proof/Machine/Ops.lean ====
section
/-! DEFINITION. The operations that every block shares: station time, rounding, the station state, the guards, slots and peer
records by number, ATTN, the fault capture, the report FIFO, the passing log, and the port's answers. -/

namespace Sys2Proof.Machine

/-! ## Station time and rounding -/

/-- The difference of two station times, modulo 2^48, read in -2^47..2^47 - 1 (R55). -/
def timeDiff (a b : Time) : Int := (a - b).toInt

/-- `a` lies before `b` (R55). -/
def isBefore (a b : Time) : Bool := decide (0 < timeDiff b a)

/-- The time `t` has been reached: it is not after `now` (R55). -/
def reached (t now : Time) : Bool := !isBefore now t

/-- A time that stands in an optional field has been reached. -/
def dueBy (t : Option Time) (now : Time) : Bool :=
  match t with
  | none => false
  | some d => reached d now

/-- An expiry: a time plus a duration in µs, modulo 2^48 (R55). -/
def later (t : Time) (d : Nat) : Time := t + BitVec.ofNat 48 d

/-- A time plus a signed number of µs, modulo 2^48 (R67). -/
def shiftTime (t : Time) (d : Int) : Time := t + BitVec.ofInt 48 d

/-- `n / d` rounded to nearest, halves up (00_scope, Rounding). -/
def roundHalfUp (n d : Nat) : Nat := (2 * n + d) / (2 * d)

/-- `x / d` rounded to nearest, halves away from zero (00_scope, Rounding). -/
def roundHalfAway (x : Int) (d : Nat) : Int :=
  if x < 0 then -(roundHalfUp x.natAbs d : Int) else (roundHalfUp x.natAbs d : Int)

/-- One more, saturating at 65,535 (R19, R59, R93, R109). -/
def countUp (n : Nat) : Nat := if n < Config.countLimit then n + 1 else n

/-! ## Station state, channels, peer records, slots -/

/-- The station state (R159): UNCONFIGURED without a configuration. -/
def stationState (s : State) : StationState :=
  match s.station.conf with
  | none => .unconfigured
  | some _ =>
    match s.station.mode with
    | .idle => .idle
    | .clearing => .clearing
    | .running => .running
    | .halting => .halting

/-- The station is RUNNING and HALT has not been taken. -/
def isRunning (s : State) : Bool := stationState s == .running

/-- The value of a channel. -/
def ofChannel {α : Type} (p : PerChannel α) : Channel → α
  | .a => p.a
  | .b => p.b
  | .c => p.c

/-- The channels' values with one replaced. -/
def putChannel {α : Type} (p : PerChannel α) (ch : Channel) (x : α) : PerChannel α :=
  match ch with
  | .a => { p with a := x }
  | .b => { p with b := x }
  | .c => { p with c := x }

/-- The guard of a channel. -/
def guardOf (s : State) (ch : Channel) : Guard := ofChannel s.channels.guards ch

/-- The state with the guard of one channel replaced. -/
def setGuard (ch : Channel) (g : Guard) (s : State) : State :=
  { s with channels := { s.channels with guards := putChannel s.channels.guards ch g } }

/-- Slot `i` of the competitor table. -/
def slotOf (s : State) (i : SlotNo) : Slot := s.table.slots[i]

/-- The state with slot `i` replaced. -/
def setSlot (i : SlotNo) (x : Slot) (s : State) : State :=
  { s with table := { s.table with slots := s.table.slots.set i x } }

/-- The place of a station number among the peer records; none outside 1..31 (R59). -/
def peerIndex (p : Nat) : Option (Fin 31) := if h : 1 ≤ p ∧ p ≤ 31 then some ⟨p - 1, by omega⟩ else none

/-- The peer record of place `k`. -/
def peerOf (s : State) (k : Fin 31) : PeerRecord := s.clock.peers[k]

/-- The state with the peer record of place `k` replaced. -/
def setPeer (k : Fin 31) (r : PeerRecord) (s : State) : State :=
  { s with clock := { s.clock with peers := s.clock.peers.set k r } }

/-! ## ATTN (R155) -/

/-- The head record has reached the attention age, or the FIFO the FIFO threshold (R155). -/
def fifoCalls (p : Params) (s : State) : Bool :=
  decide (p.fifoThreshold ≤ s.report.fifo.length) ||
  match s.report.fifo with
  | [] => false
  | r :: _ => decide ((p.attentionAge * 1000 : Nat) ≤ timeDiff s.now r.issued)

/-- One of the four conditions of R155 holds; in UNCONFIGURED the first two are not judged. -/
def attnHolds (s : State) : Bool :=
  s.station.fault.isSome || s.report.overrun.isSome ||
  match s.station.conf with
  | none => false
  | some p => fifoCalls p s

/-- ATTN judged afresh (R155). -/
def judgeAttn (s : State) : State := { s with report := { s.report with attn := attnHolds s } }

/-! ## The fault capture (R167) -/

/-- The capture after a fault is offered: the first one locks it, a later one sets LOST. -/
def captureFault (code : FaultCode) (detail : Option Nat) (time : Time) : Option FaultCapture → FaultCapture
  | none => { code := code, time := time, detail := detail, lost := false }
  | some f => { f with lost := true }

/-- A fault is offered to the fault capture, and ATTN is judged (R155, R167). -/
def offerFault (code : FaultCode) (detail : Option Nat) (s : State) : State :=
  judgeAttn { s with station := { s.station with fault := some (captureFault code detail s.now s.station.fault) } }

/-! ## The report FIFO (R153, R154) -/

/-- The passing number that the overrun capture names for a record (R154). -/
def recordNumber : RecordBody → Option Nat
  | .passing r => some r.number
  | .sector r => some r.number
  | .lap r => some r.number
  | .speed r => r.entryNumber
  | .amend r => some r.number
  | .guard _ => none
  | .peer _ => none

/-- The overrun capture after a record is discarded (R154). -/
def captureOverrun (r : Record) : Option OverrunCapture → OverrunCapture
  | none => { kind := recordKind r.body, number := recordNumber r.body, issued := r.issued, moreLost := false }
  | some c => { c with moreLost := true }

/-- A record that enters the FIFO ends the wait of a held REPORT_READ (R157). -/
def wakeReader : PortState → PortState
  | .working (.report count _) => .done (.atPoll count)
  | p => p

/-- The report port after a record is offered: it enters at the tail, or is discarded to the overrun capture (R153, R154). -/
def enterRecord (r : Record) (b : ReportBlock) : ReportBlock :=
  if b.fifo.length < Config.fifoPlaces then { b with fifo := b.fifo ++ [r], port := wakeReader b.port }
  else { b with overrun := some (captureOverrun r b.overrun) }

/-- A record is issued now, and ATTN is judged (R153, R155). -/
def offerRecord (b : RecordBody) (s : State) : State :=
  judgeAttn { s with report := enterRecord { issued := s.now, body := b } s.report }

/-- Records are issued in order (R153). -/
def offerRecords (bs : List RecordBody) (s : State) : State := bs.foldl (fun t b => offerRecord b t) s

/-! ## The passing log (R147 to R151) -/

/-- The latest drawn number (R147). -/
def latestDrawn (b : LogBlock) : Option Nat :=
  match b.counter with
  | none => some Config.lastNumber
  | some n => if n ≤ 1 then none else some (n - 1)

/-- The ring after the draw of `n`: whatever `n`'s place held is gone, and the place is reserved for `n` (R149). -/
def reservePlace (n : Nat) (l : List LogPlace) : List LogPlace :=
  l.filter (fun q => q.number % Config.logPlaces != n % Config.logPlaces) ++ [{ number := n, entry := none }]

/-- The log after the draw of `n` (R147 to R149). -/
def drawBlock (n : Nat) (b : LogBlock) : LogBlock :=
  { counter := if n < Config.lastNumber then some (n + 1) else none, places := reservePlace n b.places }

/-- A draw that takes the last number offers NUMBERS_EXHAUSTED, and in RUNNING station control owes a HALT (R148, R165). -/
def exhaust (s : State) : State :=
  let t := offerFault .numbersExhausted none s
  if isRunning s then { t with station := { t.station with haltDue := true } } else t

/-- A draw from the passing-number counter: the number drawn, or none while the counter is EXHAUSTED (R147, R148). -/
def drawNumber (s : State) : Option Nat × State :=
  match s.log.counter with
  | none => (none, s)
  | some n =>
    let t := { s with log := drawBlock n s.log }
    (some n, if n < Config.lastNumber then t else exhaust t)

/-- The log entry of `n`, if `n`'s place holds it (R149). -/
def logEntry (s : State) (n : Nat) : Option LogEntry := (s.log.places.find? (fun q => q.number == n)).bind (·.entry)

/-- The place of `n` with a new entry, where it is the place of `n`. -/
def fillPlace (n : Nat) (e : LogEntry) (q : LogPlace) : LogPlace := if q.number = n then { q with entry := some e } else q

/-- The entry of `n` is written into its reserved place (R149, R150). -/
def writeLog (n : Nat) (e : LogEntry) (s : State) : State :=
  { s with log := { s.log with places := s.log.places.map (fillPlace n e) } }

/-- The place of `n` with its entry changed, where it holds one. -/
def changePlace (n : Nat) (f : LogEntry → LogEntry) (q : LogPlace) : LogPlace :=
  if q.number = n then { q with entry := q.entry.map f } else q

/-- A result or mark is written into the entry of `n`, if the ring still holds it (R151). -/
def updateLog (n : Nat) (f : LogEntry → LogEntry) (s : State) : State :=
  { s with log := { s.log with places := s.log.places.map (changePlace n f) } }

/-- The UNSENT mark of a place. -/
def placeUnsent (q : LogPlace) : Bool := (q.entry.bind (·.unsent)).isSome

/-- The number of entries marked UNSENT (R151). -/
def unsentCount (s : State) : Nat := s.log.places.countP placeUnsent

/-! ## Answers of the report port (R156, R171) -/

/-- A response with an empty body. -/
def bare (c : ResponseCode) : Response := { code := c, body := .nothing }

/-- An OK response with a body. -/
def okWith (b : ResponseBody) : Response := { code := .ok, body := b }

/-- A taken request is answered: the response stands ready to be shifted out (R156, R171). What is left of the response of an earlier
transaction is lost, as at a deselection (notes/assumptions/13.md). -/
def answer (r : Response) (collects : Bool) (takes : Nat) (s : State) : State :=
  { s with report :=
    { s.report with transaction := some { response := r, frame := responseFrame r, collects := collects, takes := takes } } }

/-- A request answered in its transaction, with nothing left to do at its delivery. -/
def respond (r : Response) (s : State) : State := answer r false 0 s

/-- The port holds a command. -/
def setPort (p : PortState) (s : State) : State := { s with report := { s.report with port := p } }

/-- A command of a held kind: answered at once by its own tests or held in READY, and answered BUSY otherwise (R102, R156). -/
def takeHeld (atOnce : Option Response) (cmd : PortCommand) (s : State) : State :=
  match s.report.port with
  | .ready =>
    match atOnce with
    | some r => respond r s
    | none => respond (bare .notReady) (setPort (.working (.request cmd s.now)) s)
  | _ => respond (bare .busy) s

end Sys2Proof.Machine
end

