-- ==== Sys2Proof/Machine/Operands.lean ====
section
/-! DEFINITION. The operand forms: what an arrangement makes of the channels, how the arguments of CONFIGURE are refused, read and
clamped, and the tests of number arguments. -/

namespace Sys2Proof.Machine

/-! ## Arrangements (R1) -/

/-- The channels that an arrangement names (R1). -/
def channelsOf : Arrangement → List Channel
  | .single => [.a]
  | .trap => [.a, .b]
  | .splitAB => [.a, .b]
  | .splitABC => [.a, .b, .c]

/-- A channel is on: the station is configured and the arrangement names it (R1, R2). -/
def channelOn (s : State) (ch : Channel) : Bool :=
  match s.station.conf with
  | none => false
  | some p => (channelsOf p.arrangement).contains ch

/-- The line group that contains a channel (R1). -/
def groupOf (a : Arrangement) (ch : Channel) : LineGroup :=
  if a = .trap ∧ ch = .b then .exitLoop else .timing

/-- The channels of a line group (R1). -/
def groupChannels (a : Arrangement) (g : LineGroup) : List Channel :=
  (channelsOf a).filter (fun ch => groupOf a ch == g)

/-- SPLIT arrangements, whose timing group holds several channels (R1). -/
def isSplit : Arrangement → Bool
  | .splitAB => true
  | .splitABC => true
  | _ => false

/-! ## The arguments of CONFIGURE (R160, R170, R172) -/

/-- The arrangement of the codes of configured arrangement and SPLIT mask; none where R160 refuses them. -/
def arrangementOf : Nat → Nat → Option Arrangement
  | 1, 0 => some .single
  | 2, 0 => some .trap
  | 3, 1 => some .splitAB
  | 3, 2 => some .splitABC
  | _, _ => none

def lapLineOf : Nat → Option Bool
  | 1 => some true
  | 2 => some false
  | _ => none

def guardModeOf : Nat → Option GuardMode
  | 1 => some .auto
  | 2 => some .latched
  | _ => none

def admissionOf : Nat → Option Admission
  | 1 => some .anyone
  | 2 => some .rosterOnly
  | _ => none

def arbiterModeOf : Nat → Option ArbiterMode
  | 1 => some .localFirst
  | 2 => some .lineFirst
  | _ => none

def readModeOf : Nat → Option ReadMode
  | 1 => some .wait
  | 2 => some .immediate
  | _ => none

/-- The feeders named, in the order of their bytes: a feeder byte of 0 means none (R172). A gap before a named feeder is not kept, and
CONFIG_READ and STATUS notices give the feeders first and zeros after them (DESIGN CHOICE, notes/assumptions/49.md). -/
def feedersOf (a : ConfigArgs) : List Nat := [a.feeder1, a.feeder2, a.feeder3].filter (fun n => n != 0)

/-- Station number and feeder numbers that R160 takes. -/
def numbersValid (a : ConfigArgs) : Bool :=
  decide (1 ≤ a.stationNumber) && decide (a.stationNumber ≤ 31) &&
    (feedersOf a).all (fun n => decide (n ≤ 31) && n != a.stationNumber) && decide (feedersOf a).Nodup

/-- The arguments of one channel, its guard mode read. -/
def channelParams (c : ChannelArgs) : Option ChannelParams :=
  (guardModeOf c.guardMode).map fun m =>
    { threshold := c.threshold, guardLevel := c.guardLevel, filterWidth := c.filterWidth, guardMode := m, quietTime := c.quietTime }

/-- The arguments of CONFIGURE read, before clamping; none in the cases R160 answers BAD_ARGUMENT. -/
def readParams (a : ConfigArgs) : Option Params := do
  let arrangement ← arrangementOf a.arrangement a.splitMask
  let lapLine ← lapLineOf a.lapLine
  let ca ← channelParams a.channels.a
  let cb ← channelParams a.channels.b
  let cc ← channelParams a.channels.c
  let admission ← admissionOf a.admission
  let arbiterMode ← arbiterModeOf a.arbiterMode
  let readMode ← readModeOf a.readMode
  if numbersValid a then
    some
      { stationNumber := a.stationNumber, position := a.position, arrangement := arrangement, feeders := feedersOf a,
        lapLine := lapLine, trapDistance := a.trapDistance, trapWindow := a.trapWindow, channels := ⟨ca, cb, cc⟩,
        closeGap := a.closeGap, maxDwell := a.maxDwell, admission := admission, floorFraction := a.floorFraction,
        minimumHits := a.minimumHits, calibration := a.calibration, repeatWindow := a.repeatWindow, minSector := a.minSector,
        maxSector := a.maxSector, pairWait := a.pairWait, settleTime := a.settleTime, tolerance := a.tolerance,
        confidenceMax := a.confidenceMax, forecastThreshold := a.forecastThreshold, slack := a.slack,
        arbiterMode := arbiterMode, bypassLimit := a.bypassLimit, portPromotion := a.portPromotion,
        fifoThreshold := a.fifoThreshold, readMode := readMode, readTimeout := a.readTimeout, attentionAge := a.attentionAge }
  else none

/-- A value outside `lo..hi` goes to the nearer end (R160). -/
def clamp (lo hi v : Nat) : Nat := max lo (min hi v)

/-- The filter width goes to the nearest of 2, 4 and 8 ms, and to the greater of two equally near (R160). -/
def clampWidth (w : Nat) : Nat := if w < 3 then 2 else if w < 6 then 4 else 8

/-- The parameters of one channel after clamping (R160). -/
def clampChannel (c : ChannelParams) : ChannelParams :=
  { c with
    threshold := clamp 1 254 c.threshold
    guardLevel := clamp 1 255 c.guardLevel
    filterWidth := clampWidth c.filterWidth
    quietTime := clamp 10 500 c.quietTime }

/-- The parameters after clamping, with the ranges of R160. -/
def clampParams (p : Params) : Params :=
  { p with
    position := clamp 0 8000 p.position
    trapDistance := clamp 100 5000 p.trapDistance
    trapWindow := clamp 100 2000 p.trapWindow
    channels := ⟨clampChannel p.channels.a, clampChannel p.channels.b, clampChannel p.channels.c⟩
    closeGap := clamp 5 200 p.closeGap
    maxDwell := clamp 500 10000 p.maxDwell
    floorFraction := clamp 4 15 p.floorFraction
    minimumHits := clamp 1 8 p.minimumHits
    calibration := max (-5000) (min 5000 p.calibration)
    repeatWindow := clamp 0 60000 p.repeatWindow
    minSector := clamp 0 600000 p.minSector
    maxSector := clamp 1000 3600000 p.maxSector
    pairWait := clamp 0 5000 p.pairWait
    settleTime := clamp 0 5000 p.settleTime
    tolerance := clamp 1 64 p.tolerance
    confidenceMax := clamp 1 7 p.confidenceMax
    forecastThreshold := clamp 1 7 p.forecastThreshold
    slack := clamp 1 8 p.slack
    bypassLimit := clamp 1 7 p.bypassLimit
    portPromotion := clamp 1 16 p.portPromotion
    fifoThreshold := clamp 1 127 p.fifoThreshold
    readTimeout := clamp 1 255 p.readTimeout
    attentionAge := clamp 1 250 p.attentionAge }

/-! ## Number arguments -/

/-- A transponder id, 1..16,777,214 (R4). -/
def transponderValid (t : Nat) : Bool := decide (1 ≤ t) && decide (t ≤ Config.lastTransponder)

/-- A passing number, 1..4,294,967,295 (R147). -/
def numberValid (n : Nat) : Bool := decide (1 ≤ n) && decide (n ≤ Config.lastNumber)

/-- A station time, 0..2^48 - 1 (R127). -/
def timeValid (t : Nat) : Bool := decide (t < 2 ^ 48)

end Sys2Proof.Machine
end

