-- ==== Sys2Proof/Machine/Line.lean ====
section
/-! DEFINITION. The line controller's sending side (5.2 to 5.4): the transmit queue, the offers and revisions, the pulling of
UNSENT entries, medium access, and the meanings of the line rows. -/

namespace Sys2Proof.Machine

/-! ## The transmit queue (R79) -/

/-- The order of the classes: High, Middle, Low. -/
def classRank : NoticeClass → Nat
  | .high => 0
  | .middle => 1
  | .low => 2

/-- TIME and STATUS notices, which share the reserve (R79). -/
def isTimed (n : Notice) : Bool :=
  match n.body with
  | .time => true
  | .status _ => true
  | _ => false

/-- PASSING and REVISE notices. -/
def isPassingOrRevise (n : Notice) : Bool := !isTimed n

/-- The notice refers to local passing `x`, and is not left over from a cleared session (R79, R90). -/
def refersTo (x : Nat) (n : Notice) : Bool :=
  !n.leftOver &&
  match n.body with
  | .passing k .. => k == x
  | .revise k .. => k == x
  | _ => false

/-- A notice as it enters the queue, with collision count 0 (R76). -/
def freshNotice (b : NoticeBody) (cls : NoticeClass) (now : Time) : Notice :=
  { body := b, cls := cls, entryTime := now, collisions := 0, inTransmission := false, followOn := none, leftOver := false }

/-- A notice takes a place at the tail of its class (R79, R80, R82). -/
def enqueue (n : Notice) (q : List Notice) : List Notice :=
  q.takeWhile (fun m => decide (classRank m.cls ≤ classRank n.cls)) ++
    n :: q.dropWhile (fun m => decide (classRank m.cls ≤ classRank n.cls))

/-- `m` stands before a promoted notice that entered at `t`: a High notice, or a Middle notice that did not enter after `t`
(R81; among equal entry times the promoted notice is the later, notes/assumptions/22.md). -/
def beforePromoted (t : Time) (m : Notice) : Bool :=
  match m.cls with
  | .high => true
  | .middle => !isBefore t m.entryTime
  | .low => false

/-- A promoted notice takes its place among the Middle notices by its entry time (R81). -/
def enqueueByEntry (n : Notice) (q : List Notice) : List Notice :=
  q.takeWhile (beforePromoted n.entryTime) ++ n :: q.dropWhile (beforePromoted n.entryTime)

/-- The head notice: the one in transmission, or else the first (R74, R79). -/
def headNotice (q : List Notice) : Option Notice := (q.find? (·.inTransmission)) <|> q.head?

/-- The gap of a class, in µs (R74). -/
def gapOf : NoticeClass → Nat
  | .high => 6
  | .middle => 8
  | .low => 12

/-- There is a place for a TIME or STATUS notice (R80). -/
def timedRoom (q : List Notice) : Bool :=
  decide (q.length < Config.transmitPlaces) && decide (q.countP isTimed < Config.timedPlaces)

/-- The state with another transmit queue. -/
def setQueue (q : List Notice) (s : State) : State := { s with line := { s.line with queue := q } }

/-! ## The line state (5.3) -/

/-- DEFERRING is entered: quiet time counts from now, or is 0 while the carrier is present (R74). -/
def enterDeferring (s : State) : State :=
  { s with line :=
    { s.line with state := .deferring, waitDue := none, quietFrom := if s.line.carrierSince.isSome then none else some s.now } }

/-- LISTENING is entered. -/
def enterListening (s : State) : State :=
  { s with line := { s.line with state := .listening, waitDue := none, quietFrom := none } }

/-- At the end of an attempt or of a wait: DEFERRING when the queue holds a notice, and LISTENING otherwise (R75 to R78). -/
def resumeLine (s : State) : State := if s.line.queue.isEmpty then enterListening s else enterDeferring s

/-- The moves that the queue alone brings about: out of LISTENING when a notice is there, out of DEFERRING when none is (R74). JAMMED
stays: a CONFIGURE taken while the carrier jams the line of the UNCONFIGURED station leaves it JAMMED until the carrier drops (R78),
where the table of R90 names LISTENING or DEFERRING (DESIGN CHOICE, notes/assumptions/45.md). -/
def settleLine (s : State) : State :=
  match s.line.state with
  | .listening => if s.line.queue.isEmpty then s else enterDeferring s
  | .deferring => if s.line.queue.isEmpty then enterListening s else s
  | _ => s

/-! ## Offers of TIME and STATUS (R58, R69, R80) -/

/-- The TIME interval timer starts (R58). -/
def startTimeTimer (s : State) : State :=
  { s with clock := { s.clock with timeDue := some (later s.now Config.timeInterval) } }

/-- A TIME notice is offered: it takes a place, or is discarded and the interval timer starts (R58, R80). -/
def offerTime (s : State) : State :=
  if timedRoom s.line.queue then
    settleLine (setQueue (enqueue (freshNotice .time .middle s.now) s.line.queue)
      { s with clock := { s.clock with timeDue := none } })
  else startTimeTimer s

/-- A STATUS notice that waits and is not in transmission. -/
def isWaitingStatus (n : Notice) : Bool :=
  match n.body with
  | .status _ => !n.inTransmission
  | _ => false

/-- The first waiting STATUS notice takes new contents and keeps place, entry time, class and collision count (R80). Of two that wait,
one of them after a collision, it is the first in the order of the queue (DESIGN CHOICE, notes/assumptions/46.md). -/
def replaceStatus (f : StatusFields) : List Notice → List Notice
  | [] => []
  | n :: q => if isWaitingStatus n then { n with body := .status f } :: q else n :: replaceStatus f q

/-- The station state that a STATUS notice carries: HALTING is IDLE (R69, R159). -/
def noticeStationState : StationState → StationState
  | .halting => .idle
  | x => x

/-- The contents of a STATUS notice as they stand now (R69), the feeders first and zeros after them (notes/assumptions/49.md). -/
def statusContents (p : Params) (s : State) : StatusFields :=
  { stationState := stationStateCode (noticeStationState (stationState s)), arrangement := arrangementCode p.arrangement,
    lapLine := yesNoCode p.lapLine, feeder1 := p.feeders.getD 0 0, feeder2 := p.feeders.getD 1 0, feeder3 := p.feeders.getD 2 0,
    fault := (s.station.fault.map (fun f => faultCodeNat f.code)).getD 0, latest := (latestDrawn s.log).getD 0,
    unsent := unsentCount s }

/-- A STATUS notice is offered: it replaces a waiting one, takes a place, or is discarded (R80). -/
def offerStatus (p : Params) (s : State) : State :=
  if s.line.queue.any isWaitingStatus then setQueue (replaceStatus (statusContents p s) s.line.queue) s
  else if timedRoom s.line.queue then
    settleLine (setQueue (enqueue (freshNotice (.status (statusContents p s)) .low s.now) s.line.queue) s)
  else s

/-- The next STATUS offer falls 1 s after this one (R69). -/
def scheduleStatus (s : State) : State :=
  { s with clock := { s.clock with statusDue := some (later s.now Config.statusInterval) } }

/-! ## Pulling UNSENT entries (R85) -/

/-- The flags a PASSING notice carries for a log entry: less UNTRACKED, with RETIMED if it has been retimed (R73, R85, R99). -/
def noticeFlags (e : LogEntry) : Flags := addFlagIf e.retimed (dropFlag e.flags .untracked) .retimed

/-- The notice that a pull builds from an entry as it stands (R85). -/
def pulledBody (e : LogEntry) : Owed → NoticeBody
  | .passing => .passing e.number e.transponder e.instant (noticeFlags e)
  | .revise => .revise e.number e.transponder (if e.withdrawn then .withdraw else .retime e.instant)

/-- The entry marked UNSENT with the lowest passing number, with its owed notice (R85). -/
def firstUnsent : List LogPlace → Option (LogEntry × Owed)
  | [] => none
  | q :: qs =>
    let rest := firstUnsent qs
    match q.entry.bind (fun e => e.unsent.map (fun o => (e, o))) with
    | none => rest
    | some x =>
      match rest with
      | none => some x
      | some y => if y.1.number < x.1.number then some y else some x

/-- The UNSENT mark of an entry is cleared. -/
def clearUnsent (e : LogEntry) : LogEntry := { e with unsent := none }

/-- A PASSING or REVISE notice has left the queue: where none is left, the UNSENT entry of the lowest number is pulled (R85). -/
def pullUnsent (s : State) : State :=
  if s.line.queue.any isPassingOrRevise then s
  else
    match firstUnsent s.log.places with
    | none => s
    | some (e, o) =>
      settleLine (setQueue (enqueue (freshNotice (pulledBody e o) .high s.now) s.line.queue) (updateLog e.number clearUnsent s))

/-! ## PASSING notices and revisions offered by the pairing unit (R82 to R84) -/

/-- The log entry of `n` is marked UNSENT with an owed notice (R82, R83). -/
def markUnsent (n : Nat) (o : Owed) (s : State) : State := updateLog n (fun e => { e with unsent := some o }) s

/-- A notice takes the tail of the High class, or the log entry is marked UNSENT where the queue holds 24 (R82, R83). -/
def offerHigh (n : Nat) (b : NoticeBody) (o : Owed) (s : State) : State :=
  if s.line.queue.length < Config.transmitPlaces then
    settleLine (setQueue (enqueue (freshNotice b .high s.now) s.line.queue) s)
  else markUnsent n o s

/-- The PASSING notice of a processed passing is offered (R82). -/
def offerPassing (n transponder : Nat) (instant : Time) (flags : Flags) (s : State) : State :=
  offerHigh n (.passing n transponder instant (dropFlag flags .untracked)) .passing s

/-- A revision applied to a waiting notice: the notice as revised, or none where it is removed (third and fourth case of R83). -/
def reviseNotice (r : Revision) (n : Notice) : Option Notice :=
  match n.body with
  | .passing k t _ fl =>
    match r with
    | .retime t' => some { n with body := .passing k t t' (addFlag fl .retimed) }
    | .withdraw => none
  | .revise k t _ => some { n with body := .revise k t r }
  | _ => some n

/-- The queue with the first notice that refers to `x` changed by a revision: its follow-on where it is in transmission, else the
notice itself; with whether a notice was removed (second to fourth case of R83). -/
def reviseQueue (x : Nat) (r : Revision) : List Notice → List Notice × Bool
  | [] => ([], false)
  | n :: q =>
    if refersTo x n then
      if n.inTransmission then ({ n with followOn := some r } :: q, false)
      else
        match reviseNotice r n with
        | some m => (m :: q, false)
        | none => (q, true)
    else
      let rest := reviseQueue x r q
      (n :: rest.1, rest.2)

/-- A WITHDRAW of a passing whose owed notice is PASSING clears the mark; otherwise the mark stays (R84). -/
def reviseUnsent (x : Nat) (r : Revision) (o : Owed) (s : State) : State :=
  match o, r with
  | .passing, .withdraw => updateLog x clearUnsent s
  | _, _ => s

/-- A revision of local passing `x` is offered to the transmit queue (R83). Where a WITHDRAW removes the only notice in DEFERRING and an
UNSENT entry is pulled with it (R85), the queue is not found empty: the line stays in DEFERRING and keeps its quiet time (R74; DESIGN
CHOICE, notes/assumptions/53.md). -/
def offerRevision (x transponder : Nat) (r : Revision) (s : State) : State :=
  match (logEntry s x).bind (·.unsent) with
  | some o => reviseUnsent x r o s
  | none =>
    if s.line.queue.any (refersTo x) then
      let q := reviseQueue x r s.line.queue
      let t := setQueue q.1 s
      if q.2 then settleLine (pullUnsent t) else t
    else offerHigh x (.revise x transponder r) .revise s

/-! ## Medium access (R74 to R78) -/

/-- The quiet time has reached the gap of a class: the carrier is absent and quiet for that long (R74). -/
def gapReached (s : State) (c : NoticeClass) : Bool :=
  s.line.carrierSince.isNone &&
  match s.line.quietFrom with
  | none => false
  | some t => decide ((gapOf c : Int) ≤ timeDiff s.now t)

/-- The attempt of the first notice of the queue begins: it is in transmission and its frame goes out (R73 to R75). -/
def beginAttempt (p : Params) (n : Notice) (q : List Notice) (s : State) : State :=
  { s with line :=
    { s.line with
      state := .sending, queue := { n with inTransmission := true } :: q, quietFrom := none, attemptFrom := some s.now,
      attemptEnd := none, frame := buildFrame p.stationNumber p.position s.now n.body } }

/-- ATTEMPT_START: in DEFERRING, when the quiet time reaches the gap of the head notice's class (R74). -/
def execAttemptStart (s : State) : Host.Outcome State Fault Refusal :=
  match s.station.conf, s.line.state, s.line.queue with
  | some p, .deferring, n :: q => if gapReached s n.cls then .next (beginAttempt p n q s) else .next s
  | _, _, _ => .next s

/-- The notice in transmission (R75). -/
def sentNotice (s : State) : Option Notice := s.line.queue.find? (·.inTransmission)

/-- The queue without the notice in transmission. -/
def withoutSent (q : List Notice) : List Notice := q.eraseP (·.inTransmission)

/-- The attempt has ended: nothing is on transmit data. -/
def endAttempt (s : State) : State := { s with line := { s.line with frame := [], attemptEnd := some s.now } }

/-- The REVISE notice that carries a follow-on revision (R83). -/
def followOnBody (b : NoticeBody) (r : Revision) : NoticeBody :=
  match b with
  | .passing k t .. => .revise k t r
  | .revise k t _ => .revise k t r
  | x => x

/-- What the departure of a sent notice brings: the interval timer for TIME (R58); for PASSING and REVISE the follow-on enters
(R83) or UNSENT entries are pulled (R85), neither for a notice left over from a cleared session (R90). -/
def afterDeparture (n : Notice) (s : State) : State :=
  match n.body with
  | .time => startTimeTimer s
  | .status _ => s
  | _ =>
    if n.leftOver then s
    else
      match n.followOn with
      | some r => setQueue (enqueue (freshNotice (followOnBody n.body r) .high s.now) s.line.queue) s
      | none => pullUnsent s

/-- The notice `n` in transmission has been sent (R75). -/
def completeAttempt (n : Notice) (s : State) : State :=
  resumeLine (afterDeparture n (setQueue (withoutSent s.line.queue) (endAttempt s)))

/-- ATTEMPT_COMPLETE (R75). -/
def execAttemptComplete (s : State) : Host.Outcome State Fault Refusal :=
  match s.line.state, sentNotice s with
  | .sending, some n => .next (completeAttempt n s)
  | _, _ => .next s

/-- The number of back-off slots at the n-th collision, in 0..2^min(n,6) - 1 (R76; `draw` is the random value). -/
def backoffSlots (n draw : Nat) : Nat := draw % 2 ^ min n 6

/-- BACKOFF is entered for that many slots; a wait of no slots ends at once (R76). -/
def enterBackoff (n draw : Nat) (s : State) : State :=
  if backoffSlots n draw = 0 then resumeLine s
  else
    { s with line :=
      { s.line with
        state := .backoff, quietFrom := none, waitDue := some (later s.now (Config.backoffSlot * backoffSlots n draw)) } }

/-- CONGESTED is entered (R77). -/
def enterCongested (s : State) : State :=
  { s with line :=
    { s.line with state := .congested, quietFrom := none, waitDue := some (later s.now Config.congestionPause) } }

/-- The notice in transmission replaced by another that waits in its place. -/
def putSent (m : Notice) : List Notice → List Notice
  | [] => []
  | n :: q => if n.inTransmission then { m with inTransmission := false } :: q else n :: putSent m q

/-- A collided notice that stays: BACKOFF, or at the twelfth collision the count becomes 0 and the line is CONGESTED (R76, R77). -/
def keepCollided (m : Notice) (draw : Nat) (s : State) : State :=
  if m.collisions < Config.lastCollision then enterBackoff m.collisions draw (setQueue (putSent m s.line.queue) s)
  else enterCongested (setQueue (putSent { m with collisions := 0 } s.line.queue) s)

/-- The collided notice with its follow-on applied, or none where the follow-on removes it (R83). -/
def applyFollowOn (n : Notice) : Option Notice :=
  match n.followOn with
  | none => some n
  | some r => (reviseNotice r n).map (fun m => { m with followOn := none })

/-- The collision of a PASSING or REVISE notice whose count has been raised (R76, R77, R83, R90). -/
def collideHigh (n : Notice) (draw : Nat) (s : State) : State :=
  if n.leftOver then enterBackoff n.collisions draw (setQueue (withoutSent s.line.queue) s)
  else
    match applyFollowOn n with
    | some m => keepCollided m draw s
    | none => enterBackoff n.collisions draw (pullUnsent (setQueue (withoutSent s.line.queue) s))

/-- The collision of a TIME or STATUS notice whose count has been raised: discarded at the twelfth (R76, R77). -/
def collideTimed (n : Notice) (draw : Nat) (s : State) : State :=
  if n.collisions < Config.lastCollision then keepCollided n draw s
  else
    let t := setQueue (withoutSent s.line.queue) s
    resumeLine (if n.body = .time then startTimeTimer t else t)

/-- The attempt of `n` meets a collision (R75, R76). -/
def collide (n : Notice) (draw : Nat) (s : State) : State :=
  let m := { n with collisions := n.collisions + 1 }
  if isTimed n then collideTimed m draw (endAttempt s) else collideHigh m draw (endAttempt s)

/-- COLLISION (R76). -/
def execCollision (draw : Nat) (s : State) : Host.Outcome State Fault Refusal :=
  match s.line.state, sentNotice s with
  | .sending, some n => .next (collide n draw s)
  | _, _ => .next s

/-- BACKOFF_END (R76). -/
def execBackoffEnd (s : State) : Host.Outcome State Fault Refusal :=
  if s.line.state = .backoff ∧ dueBy s.line.waitDue s.now then .next (resumeLine s) else .next s

/-- CONGESTION_END (R77). -/
def execCongestionEnd (s : State) : Host.Outcome State Fault Refusal :=
  if s.line.state = .congested ∧ dueBy s.line.waitDue s.now then .next (resumeLine s) else .next s

/-- CARRIER_RISE (R74): the quiet time becomes 0, and the carrier is watched from now (R78). -/
def execCarrierRise (s : State) : Host.Outcome State Fault Refusal :=
  if s.line.carrierSince.isSome then .next s
  else .next { s with line := { s.line with carrierSince := some s.now, quietFrom := none } }

/-- The carrier has dropped: JAMMED ends, and in DEFERRING the quiet time counts from now (R74, R78). -/
def dropCarrier (s : State) : State :=
  let t := { s with line := { s.line with carrierSince := none } }
  match s.line.state with
  | .jammed => resumeLine t
  | .deferring => { t with line := { t.line with quietFrom := some s.now } }
  | _ => t

/-- CARRIER_DROP (R78). -/
def execCarrierDrop (s : State) : Host.Outcome State Fault Refusal :=
  if s.line.carrierSince.isSome then .next (dropCarrier s) else .next s

/-- The carrier has been present without a break for 20,000 µs (R78). -/
def jamReached (s : State) : Bool := dueBy (s.line.carrierSince.map (fun t => later t Config.jamTime)) s.now

/-- A notice that is no longer in transmission. -/
def notSending (n : Notice) : Notice := { n with inTransmission := false }

/-- An attempt in progress ends; at a jam none is in progress, since a frame is far shorter (R78, notes/assumptions/34.md). -/
def cutAttempt (s : State) : State := if s.line.state = .sending then endAttempt s else s

/-- JAMMED is entered: waits are cancelled, notices keep their places, and the fault is offered (R78). -/
def jamLine (s : State) : State :=
  let t := cutAttempt s
  offerFault .lineJammed none
    { t with line := { t.line with state := .jammed, queue := t.line.queue.map notSending, quietFrom := none, waitDue := none } }

/-- LINE_JAMMED (R78). -/
def execLineJammed (s : State) : Host.Outcome State Fault Refusal :=
  if s.line.state ≠ .jammed ∧ jamReached s then .next (jamLine s) else .next s

/-! ## Schedules and promotion (R58, R69, R81) -/

/-- TIME_INTERVAL_EXPIRY (R58). -/
def execTimeIntervalExpiry (s : State) : Host.Outcome State Fault Refusal :=
  if dueBy s.clock.timeDue s.now then .next (offerTime { s with clock := { s.clock with timeDue := none } }) else .next s

/-- STATUS_INTERVAL_EXPIRY (R69). -/
def execStatusIntervalExpiry (s : State) : Host.Outcome State Fault Refusal :=
  match s.station.conf with
  | none => .next s
  | some p => if dueBy s.clock.statusDue s.now then .next (offerStatus p (scheduleStatus s)) else .next s

/-- A Low STATUS notice whose promotion has fallen due (R81). -/
def promotable (now : Time) (n : Notice) : Bool :=
  isTimed n && n.cls == .low && reached (later n.entryTime Config.promotionAge) now

/-- STATUS_PROMOTION (R81): the first STATUS notice whose promotion is due takes its place in the Middle class. -/
def execStatusPromotion (s : State) : Host.Outcome State Fault Refusal :=
  match s.line.queue.find? (promotable s.now) with
  | none => .next s
  | some n => .next (setQueue (enqueueByEntry { n with cls := .middle } (s.line.queue.erase n)) s)

end Sys2Proof.Machine
end

