-- ==== Sys2Proof/Machine/Clock.lean ====
section
/-! DEFINITION. The clock unit (chapter 4): samples and offsets, the moves of a peer record, the conversion of instants, PEER_READ,
and the rows STALE_EXPIRY and CLOCK_WRAP. -/

namespace Sys2Proof.Machine

/-- The line delay in µs between two positions in m (R60). -/
def lineDelay (own peer : Nat) : Nat := roundHalfUp ((max own peer - min own peer) * 5) 1000

/-- The sample of a TIME notice (R60). -/
def timeSample (receiveTime sendTime : Time) (delay : Nat) : Int := timeDiff receiveTime (later sendTime delay)

/-- A sample whose magnitude is at most 2^40 - 1 µs (R60). -/
def usable (sample : Int) : Bool := decide (sample.natAbs ≤ Config.usableLimit)

/-- A position of a TIME frame as it is stored: above 8,000 it is 8,000 (R169). -/
def peerPosition (position : Nat) : Nat := min position 8000

/-- The offset that a filter step gives: a quarter of the way towards the sample (R62). -/
def filteredOffset (offset sample : Int) : Int := offset + roundHalfAway (16 * sample - offset) 4

/-- The record acquired from a sample (R61). -/
def acquirePeer (sample : Int) (r : PeerRecord) : PeerRecord :=
  { r with clock := .acquiring, offset := some (16 * sample), count := 1, rejections := 0 }

/-- The record after an accepted sample (R62, R63). -/
def filterPeer (sample : Int) (r : PeerRecord) : PeerRecord :=
  { r with offset := some (filteredOffset (r.offset.getD 0) sample), count := countUp r.count, rejections := 0 }

/-- The record in ACQUIRING after a usable sample: filtered, and LOCKED when the count reaches 4 (R62). -/
def acquiringSample (sample : Int) (r : PeerRecord) : PeerRecord × Option PeerCause :=
  let f := filterPeer sample r
  if 4 ≤ f.count then ({ f with clock := .locked }, some .lock) else (f, none)

/-- The record in LOCKED after a usable sample: filtered, rejected, or re-acquired at the third rejection in a row (R63). -/
def lockedSample (sample : Int) (r : PeerRecord) : PeerRecord × Option PeerCause :=
  if (16 * sample - r.offset.getD 0).natAbs ≤ Config.rejectLimit then (filterPeer sample r, none)
  else if 3 ≤ r.rejections + 1 then (acquirePeer sample r, some .rejections)
  else ({ r with rejections := r.rejections + 1 }, none)

/-- The record after a usable sample, with the cause of a change of clock state (R61 to R63). -/
def sampleMove (sample : Int) (r : PeerRecord) : PeerRecord × Option PeerCause :=
  match r.clock with
  | .unheard => (acquirePeer sample r, some .firstSample)
  | .stale => (acquirePeer sample r, some .resumed)
  | .acquiring => acquiringSample sample r
  | .locked => lockedSample sample r

/-- The record heard at `t` (R60). -/
def heardAt (t : Time) (r : PeerRecord) : PeerRecord :=
  { r with lastHeard := some t, staleDue := some (later t Config.staleTime) }

/-- The station is a configured feeder. -/
def isFeeder (p : Params) (station : Nat) : Bool := p.feeders.contains station

/-- A change of clock state of a feeder's record issues a PEER record (R65). -/
def reportPeer (p : Params) (station : Nat) (old new : PeerRecord) (cause : PeerCause) (eventTime : Time) (s : State) : State :=
  if isFeeder p station then
    offerRecord
      (.peer { station := station, previous := old.clock, new := new.clock, cause := cause, eventTime := eventTime,
               offset := new.offset.getD 0, count := new.count }) s
  else s

/-- A TIME notice handed to the clock unit (R60 to R63, R65). -/
def takeTime (p : Params) (station : Nat) (sendTime : Time) (position : Nat) (receiveTime : Time) (s : State) : State :=
  match peerIndex station with
  | none => s
  | some k =>
    let placed := { peerOf s k with position := some (peerPosition position) }
    let sample := timeSample receiveTime sendTime (lineDelay p.position (peerPosition position))
    if usable sample then
      let m := sampleMove sample placed
      let t := setPeer k (heardAt receiveTime m.1) s
      match m.2 with
      | none => t
      | some cause => reportPeer p station placed m.1 cause receiveTime t
    else setPeer k placed s

/-- A STATUS notice handed to the clock unit (R69). -/
def takeStatus (station : Nat) (f : StatusFields) (receiveTime : Time) (s : State) : State :=
  match peerIndex station with
  | none => s
  | some k => setPeer k { peerOf s k with status := some (f, receiveTime) } s

/-- The record that has gone STALE (R64). -/
def stalePeer (r : PeerRecord) : PeerRecord := { r with clock := .stale, rejections := 0, staleDue := none }

/-- The stale expiry of a record is taken: STALE, a PEER record, and for a feeder in RUNNING the fault FEEDER_SILENT (R64 to R66). -/
def goStale (p : Params) (station : Nat) (k : Fin 31) (s : State) : State :=
  let r := peerOf s k
  let t := reportPeer p station r (stalePeer r) .silence s.now (setPeer k (stalePeer r) s)
  if isFeeder p station && isRunning s then offerFault .feederSilent (some station) t else t

/-- The clock states that have a stale expiry (R64). -/
def canGoStale (c : ClockState) : Bool := c == .acquiring || c == .locked

/-- STALE_EXPIRY (R64). -/
def execStaleExpiry (station : Nat) (s : State) : Host.Outcome State Fault Refusal :=
  match s.station.conf, peerIndex station with
  | some p, some k =>
    if canGoStale (peerOf s k).clock && dueBy (peerOf s k).staleDue s.now then .next (goStale p station k s) else .next s
  | _, _ => .next s

/-- The last value of station time (R55). -/
def lastTime : Time := BitVec.allOnes 48

/-- Station time continues at 0, and with it the count of the time since the latest reset (R55, R56). -/
def restartCount (s : State) : State :=
  { s with now := 0, channels := { s.channels with resetAt := s.channels.resetAt - 281474976710656 } }

/-- Station time continues at 0, and the fault CLOCK_WRAP is offered (R56). -/
def wrapClock (s : State) : State := offerFault .clockWrap none (restartCount s)

/-- CLOCK_WRAP (R56): the microsecond after 2^48 - 1. -/
def execClockWrap (s : State) : Host.Outcome State Fault Refusal := if s.now = lastTime then .next (wrapClock s) else .next s

/-- One microsecond of station time (R55, R56). -/
def tick (s : State) : State := if s.now = lastTime then wrapClock s else { s with now := s.now + 1 }

/-! ## Conversion (R67, R68) -/

/-- An instant of a peer in local station time (R67). -/
def convertInstant (t : Time) (offset : Int) : Time := shiftTime t (roundHalfAway offset 16)

/-- The converted instant and the clock flag that a peer record gives an instant (R68). -/
def convertBy (r : PeerRecord) (t : Time) : Option Time × ClockFlag :=
  match r.clock with
  | .locked => (some (convertInstant t (r.offset.getD 0)), .plain)
  | .unheard => (none, .noClock)
  | _ => (some (convertInstant t (r.offset.getD 0)), .soft)

/-- The conversion of an instant of a station (R67, R68). -/
def convertFrom (s : State) (station : Nat) (t : Time) : Option Time × ClockFlag :=
  match peerIndex station with
  | none => (none, .noClock)
  | some k => convertBy (peerOf s k) t

/-! ## PEER_READ (R70) -/

/-- The record with its derived values (R70). -/
def peerView (s : State) (station : Nat) (k : Fin 31) : PeerView :=
  let r := peerOf s k
  { peer := r,
    isFeeder := (s.station.conf.map (fun p => isFeeder p station)).getD false,
    lineDelay := s.station.conf.bind (fun p => r.position.map (lineDelay p.position)),
    roundedOffset := r.offset.map (fun o => roundHalfAway o 16),
    time := s.now }

/-- The answer to PEER_READ (R70). -/
def peerAnswer (s : State) (station : Nat) : Response :=
  match peerIndex station with
  | none => bare .badArgument
  | some k => if s.station.conf.map (·.stationNumber) = some station then bare .badArgument else okWith (.peer (peerView s station k))

/-- PEER_READ (R70). -/
def execPeerRead (station : Nat) (s : State) : Host.Outcome State Fault Refusal := .next (respond (peerAnswer s station) s)

end Sys2Proof.Machine
end

