-- ==== Sys2Proof/Machine/Receive.lean ====
section
/-! DEFINITION. The receive path (5.5): own frames, duplicate numbers, dispatch by kind and station state, and the line intake
queue; the row FRAME_RECEIVED. -/

namespace Sys2Proof.Machine

/-- The start delimiter was received while the station's own attempt was in progress: the frame is the station's own (R86). -/
def ownFrame (receiveTime : Time) (s : State) : Bool :=
  match s.line.attemptFrom, s.line.attemptEnd with
  | some a, none => !isBefore receiveTime a
  | some a, some e => !isBefore receiveTime a && isBefore receiveTime e
  | none, _ => false

/-- An item is offered to the line intake queue, or discarded with LINE_OVERRUN set where it holds 32 (R89). -/
def offerIntake (x : IntakeItem) (s : State) : State :=
  if s.line.intake.length < Config.intakePlaces then { s with line := { s.line with intake := s.line.intake ++ [x] } }
  else { s with line := { s.line with overrun := true } }

/-- The intake item of a PASSING notice, its instant converted on arrival (R67, R89). -/
def passingItem (s : State) (origin number transponder : Nat) (instant : Time) (flags : Flags) : IntakeItem :=
  let c := convertFrom s origin instant
  { tag := { origin := origin, number := number }, transponder := transponder, body := .passing c.1 c.2 flags }

/-- The intake item of a REVISE notice, the new instant of a RETIME converted on arrival (R67, R89). -/
def reviseItem (s : State) (origin number transponder : Nat) (r : Revision) : IntakeItem :=
  { tag := { origin := origin, number := number }, transponder := transponder,
    body :=
      match r with
      | .retime t => .retime (convertFrom s origin t).1 (convertFrom s origin t).2
      | .withdraw => .withdraw }

/-- A PASSING or REVISE notice is taken from a feeder in RUNNING, and discarded otherwise (R88, R89). -/
def takeFeederItem (p : Params) (origin : Nat) (x : IntakeItem) (s : State) : State :=
  if isRunning s && isFeeder p origin then offerIntake x s else s

/-- A checked frame of another station is dispatched by its kind and by the station state (R88). -/
def dispatchNotice (p : Params) (n : RxNotice) (receiveTime : Time) (s : State) : State :=
  match n with
  | .time origin sendTime position => takeTime p origin sendTime position receiveTime s
  | .status origin f => if stationState s = .clearing then s else takeStatus origin f receiveTime s
  | .passing origin number transponder instant flags =>
    takeFeederItem p origin (passingItem s origin number transponder instant flags) s
  | .revise origin number transponder r => takeFeederItem p origin (reviseItem s origin number transponder r) s

/-- A frame that has passed the checks of R86 in a configured station: discarded where it is the station's own, offered as
DUPLICATE_STATION where it carries the station's number, and dispatched otherwise (R86 to R88). -/
def takeFrame (p : Params) (n : RxNotice) (receiveTime : Time) (s : State) : State :=
  if ownFrame receiveTime s then s
  else if rxOrigin n = p.stationNumber then offerFault .duplicateStation (some p.stationNumber) s
  else dispatchNotice p n receiveTime s

/-- FRAME_RECEIVED (R86 to R89). -/
def execFrameReceived (signal : List Bool) (receiveTime : Time) (s : State) : Host.Outcome State Fault Refusal :=
  match s.station.conf, receiveFrame signal with
  | some p, some n => .next (takeFrame p n receiveTime s)
  | _, _ => .next s

end Sys2Proof.Machine
end

