-- ==== Sys2Proof/Machine/Instant.lean ====
section
/-! DEFINITION. The instant of a pass at its close (3.1). -/

namespace Sys2Proof.Machine

/-- The considered hits: in SPLIT those of the peak channel, else every stored hit (R42). -/
def consideredHits (a : Arrangement) (peakChannel : Channel) (hits : List StoredHit) : List StoredHit :=
  if isSplit a then hits.filter (fun h => h.channel == peakChannel) else hits

/-- The floor of the weights (R43). -/
def weightFloor (peak fraction : Nat) : Nat := peak * fraction / 16

/-- The weight of a hit: its strength above the floor (R43). -/
def weight (floor : Nat) (h : StoredHit) : Nat := h.strength - floor

/-- N, the number of hits of weight greater than 0 (R43). -/
def weightedCount (floor : Nat) (hits : List StoredHit) : Nat := hits.countP (fun h => decide (0 < weight floor h))

/-- The sum of the weights (R44). -/
def weightSum (floor : Nat) (hits : List StoredHit) : Nat := (hits.map (weight floor)).sum

/-- The sum of each weight multiplied by the hit's dt (R44). -/
def momentSum (floor : Nat) (hits : List StoredHit) : Nat := (hits.map (fun h => weight floor h * h.dt)).sum

/-- `h` is chosen before `k`: greater strength, and of equal strengths the least dt (R45). -/
def strongerHit (h k : StoredHit) : Bool := decide (k.strength < h.strength) || (h.strength == k.strength && decide (h.dt < k.dt))

/-- The strongest of the hits, the first of several that agree (R45). -/
def strongestHit : List StoredHit → Option StoredHit
  | [] => none
  | h :: hs =>
    match strongestHit hs with
    | none => some h
    | some k => if strongerHit k h then some k else some h

/-- The dt of the hit that R45 chooses: among the considered hits, or among all where there is none. -/
def weakOffset (considered hits : List StoredHit) : Nat :=
  ((strongestHit (if considered.isEmpty then hits else considered)).map (·.dt)).getD 0

/-- The offset from the first hit time, and whether the closing is WEAK (R44, R45). -/
def instantOffset (p : Params) (peak : Nat) (peakChannel : Channel) (hits : List StoredHit) : Nat × Bool :=
  let considered := consideredHits p.arrangement peakChannel hits
  let floor := weightFloor peak p.floorFraction
  if p.minimumHits ≤ weightedCount floor considered then
    (roundHalfUp (momentSum floor considered) (weightSum floor considered), false)
  else (weakOffset considered hits, true)

/-- The instant after calibration: 0 where the sum is less than 0, and continuing at 0 after 2^48 - 1 (R46). -/
def calibrated (firstHit : Time) (offset : Nat) (c : Int) : Time :=
  let sum : Int := (firstHit.toNat : Int) + offset + c
  if sum < 0 then 0 else BitVec.ofInt 48 sum

/-- The instant of an entry at its close, and the WEAK decision (R41 to R46). -/
def closeInstant (p : Params) (e : Entry) : Time × Bool :=
  let o := instantOffset p e.peak e.peakChannel e.stored
  (calibrated e.firstHit o.1 p.calibration, o.2)

end Sys2Proof.Machine
end

