-- ==== Sys2Proof/Machine/Gather.lean ====
section
/-! DEFINITION. The pass gatherer (chapter 2): the channels' bursts and hits, the open-pass table, closes and their acceptance, and
the meanings of BURST_END, HIT_DELIVERY, SILENCE_EXPIRY and DWELL_EXPIRY. -/

namespace Sys2Proof.Machine

/-! ## From burst to hit (R3 to R5) -/

/-- A burst is decoded when its strength is at least the capture margin greater than that of each burst that overlaps it (R3). -/
def decodes (b : Burst) : Bool := b.overlaps.all (fun s => decide (s + Config.captureMargin ≤ b.strength))

/-- A decoded burst forms a hit: its check matches, its id is valid, and its strength reaches the detection threshold (R4, R5). -/
def formsHit (threshold : Nat) (b : Burst) : Bool :=
  decodes b && b.checkMatches && transponderValid b.id && decide (threshold ≤ b.strength)

/-- The hit of a burst on a channel (R5). -/
def hitOf (ch : Channel) (b : Burst) : Hit :=
  { transponder := b.id, channel := ch, time := b.start, strength := b.strength, lowBattery := b.lowBattery }

/-- How long ago the latest reset was, in µs, also across wraps of station time (R17, R56). -/
def sinceReset (s : State) : Int := s.now.toNat - s.channels.resetAt

/-- The burst that began at `start` was in reception at the latest reset, which discarded it (R17): it is older than the reset. One
stamped with the very microsecond of the reset may have begun before it or after it, and is taken as begun after it (DESIGN CHOICE,
notes/assumptions/4.md). -/
def beganBeforeReset (start : Time) (s : State) : Bool := decide (sinceReset s < ((s.now - start).toNat : Int))

/-- BURST_END (R2 to R5, R17): on a channel that is on, the burst completes a hit, or is lost or discarded. A burst whose reception
began before CONFIGURE brought the channel on, and after the latest reset, completes a hit: the table of R17 gives CONFIGURE no entry
for the bursts in reception (DESIGN CHOICE, notes/assumptions/4.md). -/
def execBurstEnd (ch : Channel) (burst : Burst) (s : State) : Host.Outcome State Fault Refusal :=
  match s.station.conf with
  | none => .next s
  | some p =>
    if channelOn s ch && !beganBeforeReset burst.start s && formsHit (ofChannel p.channels ch).threshold burst then
      .next { s with channels := { s.channels with held := s.channels.held ++ [hitOf ch burst] } }
    else .next s

/-! ## The table's entries (R19, R20) -/

/-- The state with other entries. -/
def setEntries (es : List Entry) (s : State) : State := { s with gather := { s.gather with entries := es } }

/-- The sticky flag CROWDED is set (R26). -/
def setCrowded (s : State) : State := { s with gather := { s.gather with crowded := true } }

/-- An OPEN or PARKED entry: the entries a lookup sees (R20, R22). -/
def isLive (e : Entry) : Bool := e.state != .closing

/-- The entry a lookup of a key finds (R20). -/
def holdsKey (k : PassKey) (e : Entry) : Bool := isLive e && e.key == k

/-- The OPEN or PARKED entry of a key, if there is one (R20). -/
def findLive (k : PassKey) (s : State) : Option Entry := s.gather.entries.find? (holdsKey k)

/-- The entries without the OPEN or PARKED entry of a key. -/
def removeLive (k : PassKey) (es : List Entry) : List Entry := es.filter (fun e => !holdsKey k e)

/-- The entries with the OPEN or PARKED entry of a key changed. -/
def updateLive (k : PassKey) (f : Entry → Entry) (es : List Entry) : List Entry :=
  es.map (fun e => if holdsKey k e then f e else e)

/-- The silence expiry of an entry last heard at `t` (R28). -/
def silenceAt (p : Params) (t : Time) : Time := later t (p.closeGap * 1000)

/-- A new OPEN entry made from a hit (R22). -/
def newEntry (p : Params) (k : PassKey) (h : Hit) : Entry :=
  { state := .opened, key := k, firstHit := h.time, lastHit := h.time, stored := [{ dt := 0, strength := h.strength, channel := h.channel }],
    stride := 1, skip := 0, hitCount := 1, peak := h.strength, peakChannel := h.channel,
    flags := addFlagIf h.lowBattery 0 .lowBattery, silenceDue := some (silenceAt p h.time),
    dwellDue := some (later h.time (p.maxDwell * 1000)), instant := none, number := none, parkMark := false, closeOrder := 0 }

/-- The hits at the even positions, counted from 0 (R24). -/
def evenPlaces : List StoredHit → List StoredHit
  | [] => []
  | [h] => [h]
  | h :: _ :: hs => h :: evenPlaces hs

/-- A hit offered for storing: stored, stored after a decimation, or not stored (R24). -/
def storeHit (x : StoredHit) (e : Entry) : Entry :=
  if e.stored.length < Config.storedHits then { e with stored := e.stored ++ [x] }
  else if e.stride < Config.maxStride then { e with stored := evenPlaces e.stored ++ [x], stride := e.stride * 2 }
  else e

/-- The hit as it is stored: its time from the first hit of the pass (R24). -/
def storedOf (e : Entry) (h : Hit) : StoredHit :=
  { dt := (h.time - e.firstHit).toNat, strength := h.strength, channel := h.channel }

/-- A hit is offered for storing, or passed over (R23). -/
def offerStore (h : Hit) (e : Entry) : Entry :=
  if e.skip + 1 = e.stride then { storeHit (storedOf e h) e with skip := 0 } else { e with skip := e.skip + 1 }

/-- A hit joins an OPEN entry (R23). -/
def joinHit (p : Params) (h : Hit) (e : Entry) : Entry :=
  offerStore h
    { e with
      lastHit := h.time
      silenceDue := some (silenceAt p h.time)
      hitCount := countUp e.hitCount
      peak := max e.peak h.strength
      peakChannel := if e.peak < h.strength then h.channel else e.peakChannel
      flags := addFlagIf h.lowBattery e.flags .lowBattery }

/-- A hit refreshes a PARKED entry (R25). -/
def refreshMarker (p : Params) (h : Hit) (e : Entry) : Entry :=
  { e with lastHit := h.time, silenceDue := some (silenceAt p h.time) }

/-! ## Acceptance by the local passing queue (R33 to R35) -/

/-- The first of the CLOSING entries in close order (R34). -/
def oldestClosing : List Entry → Option Entry
  | [] => none
  | e :: es =>
    if e.state = .closing then
      match oldestClosing es with
      | none => some e
      | some f => if f.closeOrder < e.closeOrder then some f else some e
    else oldestClosing es

/-- The item made from a closing (R33, R34). -/
def itemOf (e : Entry) : LocalItem :=
  { number := e.number, transponder := e.key.transponder, instant := e.instant.getD 0, flags := e.flags, peak := e.peak,
    peakChannel := e.peakChannel, hitCount := e.hitCount }

/-- The parked marker that a STATIONARY closing becomes (R35). -/
def markerOf (p : Params) (e : Entry) : Entry :=
  { e with
    state := .parked, stored := [], instant := none, number := none, flags := 0, parkMark := false,
    silenceDue := some (silenceAt p e.lastHit), dwellDue := none }

/-- A marker is made: the closing carries the parking mark, no OPEN or PARKED entry holds its key, and the marker's silence expiry
is still to come (R35). -/
def becomesMarker (p : Params) (e : Entry) (s : State) : Bool :=
  e.parkMark && (findLive e.key s).isNone && !reached (silenceAt p e.lastHit) s.now

/-- The entries after the acceptance of closing `e` (R34, R35). -/
def afterAcceptance (p : Params) (e : Entry) (s : State) : List Entry :=
  if becomesMarker p e s then s.gather.entries.map (fun x => if x = e then markerOf p e else x)
  else s.gather.entries.erase e

/-- The oldest waiting closing is accepted when the queue has a free place (R34). -/
def acceptClosing (p : Params) (s : State) : State :=
  if s.gather.queue.length < Config.localPlaces then
    match oldestClosing s.gather.entries with
    | none => s
    | some e =>
      { s with gather := { s.gather with queue := s.gather.queue ++ [itemOf e], entries := afterAcceptance p e s } }
  else s

/-! ## The close (R31) -/

/-- The causes of a close (R31). -/
inductive CloseCause where
  | silence | dwell | interrupted | early
deriving DecidableEq, Repr

/-- The flags of an entry with its cause flag (R31). -/
def causeFlags (c : CloseCause) (w : Flags) : Flags :=
  match c with
  | .silence => w
  | .dwell => addFlag w .stationary
  | .interrupted => addFlag w .interrupted
  | .early => addFlag w .early

/-- The entry as it becomes CLOSING (R31). -/
def closedEntry (p : Params) (c : CloseCause) (number : Option Nat) (order : Nat) (e : Entry) : Entry :=
  { e with
    state := .closing
    silenceDue := none
    dwellDue := none
    flags := addFlagIf (closeInstant p e).2 (causeFlags c e.flags) .weak
    instant := some (closeInstant p e).1
    number := number
    parkMark := c == .dwell
    closeOrder := order }

/-- The OPEN entry of key `k` becomes CLOSING with the number drawn for it, and is offered to the queue (R31, R34). -/
def becomeClosing (p : Params) (c : CloseCause) (k : PassKey) (number : Option Nat) (s : State) : State :=
  acceptClosing p
    { s with gather :=
      { s.gather with
        entries := updateLive k (closedEntry p c number s.gather.closeCount) s.gather.entries
        closeCount := s.gather.closeCount + 1 } }

/-- The entry of a key leaves the table. -/
def dropLive (k : PassKey) (s : State) : State := setEntries (removeLive k s.gather.entries) s

/-- The OPEN entry of key `k` closes. A mark of the exit loop that closes INTERRUPTED is discarded (R30); a closing of the timing
group whose draw finds the counter EXHAUSTED is discarded (R148); every other closing waits for the queue (R31). -/
def closePass (p : Params) (c : CloseCause) (k : PassKey) (s : State) : State :=
  match k.group with
  | .exitLoop => if c = .interrupted then dropLive k s else becomeClosing p c k none s
  | .timing =>
    match drawNumber s with
    | (none, t) => dropLive k t
    | (some n, t) => becomeClosing p c k (some n) t

/-- `e` closes before `f` when one event closes both: the earlier first hit, and of equal ones the one made first (R30). -/
def insertByFirstHit (e : Entry) : List Entry → List Entry
  | [] => [e]
  | f :: fs => if isBefore e.firstHit f.firstHit || e.firstHit == f.firstHit then e :: f :: fs else f :: insertByFirstHit e fs

/-- Entries in order of first hit time, in order of making where these are equal (R30). -/
def byFirstHit (es : List Entry) : List Entry := es.foldr insertByFirstHit []

/-- The OPEN entries that satisfy `sel`, in closing order (R30). -/
def openKeys (sel : PassKey → Bool) (s : State) : List PassKey :=
  (byFirstHit (s.gather.entries.filter (fun e => e.state == .opened && sel e.key))).map (·.key)

/-- One event closes entries one after another (R30). -/
def closePasses (p : Params) (c : CloseCause) (ks : List PassKey) (s : State) : State :=
  ks.foldl (fun t k => closePass p c k t) s

/-- A trip that blanks group `g` in RUNNING: its OPEN entries close INTERRUPTED and its PARKED entries are removed (R14, R30). -/
def blankGroup (p : Params) (g : LineGroup) (s : State) : State :=
  let t := closePasses p .interrupted (openKeys (fun k => k.group == g) s) s
  setEntries (t.gather.entries.filter (fun e => !(e.state == .parked && e.key.group == g))) t

/-- HALT acts on the gatherer: OPEN entries close INTERRUPTED, waiting closings of the exit loop and PARKED entries leave, and the
parking marks are cleared (R37). -/
def haltGatherer (p : Params) (s : State) : State :=
  let t := closePasses p .interrupted (openKeys (fun _ => true) s) s
  setEntries
    ((t.gather.entries.filter (fun e => e.state == .closing && e.key.group == .timing)).map (fun e => { e with parkMark := false })) t

/-! ## Hit intake (R21, R22, R26, R27) -/

/-- The hit passes the admission filter (R21). -/
def admitted (p : Params) (h : Hit) (s : State) : Bool :=
  match p.admission with
  | .anyone => true
  | .rosterOnly => s.gather.filter.contains h.transponder

/-- The silence expiry of the OPEN or PARKED entry of a key is taken (R28). -/
def takeSilence (p : Params) (k : PassKey) (s : State) : State :=
  match findLive k s with
  | none => s
  | some e => if e.state = .opened then closePass p .silence k s else dropLive k s

/-- A new entry is made where a place is free; an expiry of it that is not after now is taken at once (R22). -/
def makeEntry (p : Params) (k : PassKey) (h : Hit) (s : State) : State :=
  if s.gather.entries.length < Config.passPlaces then
    let t := setEntries (s.gather.entries ++ [newEntry p k h]) s
    if reached (silenceAt p h.time) s.now then takeSilence p k t else t
  else s

/-- `e` was last heard before `f`, by last hit time and then by first hit time (R26). -/
def heardBefore (e f : Entry) : Bool :=
  isBefore e.lastHit f.lastHit || (e.lastHit == f.lastHit && isBefore e.firstHit f.firstHit)

/-- The candidate of a full table among the OPEN and PARKED entries, the one made first where times agree (R26). -/
def candidateOf : List Entry → Option Entry
  | [] => none
  | e :: es =>
    if isLive e then
      match candidateOf es with
      | none => some e
      | some f => if heardBefore f e then some f else some e
    else candidateOf es

/-- A hit that needs a place in a full table: discarded with CROWDED set, or given the place of the candidate (R26, R27). -/
def fullTable (p : Params) (k : PassKey) (h : Hit) (s : State) : State :=
  match candidateOf s.gather.entries with
  | none => setCrowded s
  | some e =>
    if timeDiff h.time e.lastHit < (Config.evictionAge : Int) then setCrowded s
    else if e.state = .parked then makeEntry p k h (dropLive e.key s)
    else if s.gather.queue.length < Config.localPlaces then makeEntry p k h (closePass p .early e.key s)
    else setCrowded s

/-- A hit taken in RUNNING: discarded by the filter, joined to its pass, refreshing its marker, or making an entry (R21 to R27). -/
def takeHit (p : Params) (h : Hit) (s : State) : State :=
  let k : PassKey := { transponder := h.transponder, group := groupOf p.arrangement h.channel }
  if admitted p h s then
    match findLive k s with
    | some e =>
      if e.state = .opened then setEntries (updateLive k (joinHit p h) s.gather.entries) s
      else setEntries (updateLive k (refreshMarker p h) s.gather.entries) s
    | none =>
      if s.gather.entries.length < Config.passPlaces then makeEntry p k h s else fullTable p k h s
  else s

/-! ## Delivery (R6) -/

/-- The completed hit of a channel that is next to leave it: the one of the earliest hit time (R6). -/
def nextHit (ch : Channel) : List Hit → Option Hit
  | [] => none
  | h :: hs =>
    if h.channel = ch then
      match nextHit ch hs with
      | none => some h
      | some g => if isBefore g.time h.time then some g else some h
    else nextHit ch hs

/-- The hit is no longer held back: no completed hit is earlier, and no burst that began earlier on another channel that is on is
still being received (R6); a burst that a reset has discarded is not received any more (R17). -/
def mayLeave (receiving : List (Channel × Time)) (h : Hit) (s : State) : Bool :=
  s.channels.held.all (fun g => !isBefore g.time h.time) &&
    receiving.all (fun r => r.1 == h.channel || !channelOn s r.1 || beganBeforeReset r.2 s || !isBefore r.2 h.time)

/-- The guard lets a hit through (R6). -/
def guardPasses (g : GuardState) : Bool := g == .opened || g == .watching

/-- The hit leaves its channel: the guard is tested at this moment, and the gatherer takes it in RUNNING (R6, R22). -/
def deliverHit (p : Params) (h : Hit) (s : State) : State :=
  let t := { s with channels := { s.channels with held := s.channels.held.erase h } }
  if guardPasses (guardOf s h.channel).state && isRunning s then takeHit p h t else t

/-- HIT_DELIVERY (R6, R22 to R27). -/
def execHitDelivery (ch : Channel) (receiving : List (Channel × Time)) (s : State) : Host.Outcome State Fault Refusal :=
  match s.station.conf, nextHit ch s.channels.held with
  | some p, some h => if mayLeave receiving h s then .next (deliverHit p h s) else .next s
  | _, _ => .next s

/-! ## Expiries (R28, R29) -/

/-- SILENCE_EXPIRY (R28): closes an OPEN pass with no cause flag, or removes a marker. -/
def execSilenceExpiry (key : PassKey) (s : State) : Host.Outcome State Fault Refusal :=
  match s.station.conf, findLive key s with
  | some p, some e => if dueBy e.silenceDue s.now then .next (takeSilence p key s) else .next s
  | _, _ => .next s

/-- DWELL_EXPIRY (R29): closes an OPEN pass STATIONARY. -/
def execDwellExpiry (key : PassKey) (s : State) : Host.Outcome State Fault Refusal :=
  match s.station.conf, findLive key s with
  | some p, some e =>
    if e.state = .opened ∧ dueBy e.dwellDue s.now then .next (closePass p .dwell key s) else .next s
  | _, _ => .next s

end Sys2Proof.Machine
end

