-- ==== Sys2Proof/Machine/Guard.lean ====
section
/-! DEFINITION. The field guards (1.3, 1.4): crossings, trips, re-opens, the blanking of a line group, and their rows. -/

namespace Sys2Proof.Machine

/-- The guard after a rising crossing (R7, R8, R11). -/
def risenGuard (c : ChannelParams) (now : Time) (g : Guard) : Guard :=
  match g.state with
  | .opened => { g with high := true, state := .watching, filterDue := some (later now (c.filterWidth * 1000)) }
  | .quieting => { g with high := true, state := .tripped, quietDue := none }
  | _ => { g with high := true }

/-- The guard after a falling crossing (R7, R9, R10). -/
def fallenGuard (c : ChannelParams) (now : Time) (g : Guard) : Guard :=
  match g.state, c.guardMode with
  | .watching, _ => { g with high := false, state := .opened, filterDue := none }
  | .tripped, .auto => { g with high := false, state := .quieting, quietDue := some (later now (c.quietTime * 1000)) }
  | _, _ => { g with high := false }

/-- The guard after its filter expiry: tripped now (R9). -/
def trippedGuard (now : Time) (g : Guard) : Guard := { g with state := .tripped, filterDue := none, tripTime := some now }

/-- The guard after a re-open (R11, R12). -/
def reopenedGuard (g : Guard) : Guard := { g with state := .opened, quietDue := none, tripTime := none }

/-- The guard of a channel that comes on, from the carrier level sampled at CONFIGURE (R17). -/
def sampledGuard (c : ChannelParams) (now : Time) (level : Nat) : Guard :=
  if c.guardLevel ≤ level then risenGuard c now .initial else .initial

/-- RISING_CROSSING (R7, R8, R11). -/
def execRisingCrossing (ch : Channel) (s : State) : Host.Outcome State Fault Refusal :=
  match s.station.conf with
  | none => .next s
  | some p =>
    if channelOn s ch then .next (setGuard ch (risenGuard (ofChannel p.channels ch) s.now (guardOf s ch)) s) else .next s

/-- FALLING_CROSSING (R7, R9, R10). -/
def execFallingCrossing (ch : Channel) (s : State) : Host.Outcome State Fault Refusal :=
  match s.station.conf with
  | none => .next s
  | some p =>
    if channelOn s ch then .next (setGuard ch (fallenGuard (ofChannel p.channels ch) s.now (guardOf s ch)) s) else .next s

/-- The GUARD record of a channel (R13). -/
def guardRecord (p : Params) (ch : Channel) (e : GuardEvent) (s : State) : RecordBody :=
  .guard { channel := ch, event := e, mode := (ofChannel p.channels ch).guardMode, eventTime := s.now }

/-- A channel is blanked while its guard is TRIPPED or QUIETING (1.4). -/
def blanked (g : GuardState) : Bool := g == .tripped || g == .quieting

/-- Every channel of the group is blanked (1.4, R14, R15). -/
def groupBlanked (p : Params) (g : LineGroup) (s : State) : Bool :=
  (groupChannels p.arrangement g).all (fun ch => blanked (guardOf s ch).state)

/-- The guard of `ch` trips: a GUARD record is issued, and in RUNNING a trip that blanks the line group acts on its passes (R9, R13
to R15). -/
def tripGuard (p : Params) (ch : Channel) (s : State) : State :=
  let t := offerRecord (guardRecord p ch .trip s) (setGuard ch (trippedGuard s.now (guardOf s ch)) s)
  if isRunning t && groupBlanked p (groupOf p.arrangement ch) t then blankGroup p (groupOf p.arrangement ch) t else t

/-- FILTER_EXPIRY (R9). -/
def execFilterExpiry (ch : Channel) (s : State) : Host.Outcome State Fault Refusal :=
  match s.station.conf with
  | none => .next s
  | some p =>
    if channelOn s ch ∧ (guardOf s ch).state = .watching ∧ dueBy (guardOf s ch).filterDue s.now then .next (tripGuard p ch s)
    else .next s

/-- QUIET_EXPIRY (R11). -/
def execQuietExpiry (ch : Channel) (s : State) : Host.Outcome State Fault Refusal :=
  match s.station.conf with
  | none => .next s
  | some p =>
    if channelOn s ch ∧ (guardOf s ch).state = .quieting ∧ dueBy (guardOf s ch).quietDue s.now then
      .next (offerRecord (guardRecord p ch (.reopenQuiet (guardOf s ch).tripTime) s) (setGuard ch (reopenedGuard (guardOf s ch)) s))
    else .next s

/-- The answer to GUARD_REARM for a channel that is on (R12). -/
def rearmChannel (p : Params) (ch : Channel) (s : State) : State :=
  match (guardOf s ch).state with
  | .tripped =>
    if (guardOf s ch).high then respond (bare .busy) s
    else
      respond (bare .ok)
        (offerRecord (guardRecord p ch (.reopenRearm (guardOf s ch).tripTime) s) (setGuard ch (reopenedGuard (guardOf s ch)) s))
  | _ => respond (bare .refusedState) s

/-- GUARD_REARM (R12); a channel code outside 1..3 names a channel that is off (R172). -/
def execGuardRearm (channelCode : Nat) (s : State) : Host.Outcome State Fault Refusal :=
  match s.station.conf, channelOfCode channelCode with
  | none, _ => .next (respond (bare .refusedState) s)
  | some _, none => .next (respond (bare .badArgument) s)
  | some p, some ch => if channelOn s ch then .next (rearmChannel p ch s) else .next (respond (bare .badArgument) s)

end Sys2Proof.Machine
end

