-- ==== Sys2Proof/Machine/Table.lean ====
section
/-! DEFINITION. The competitor table (chapter 6): lookup, allocation and reclaim, the four timed lists and the TIMER queue, the
views SLOT_READ gives, and the rows by which entries become due. -/

namespace Sys2Proof.Machine

/-! ## Lookup (R92) -/

/-- A slot that is not FREE holds this transponder. -/
def holdsTransponder (t : Nat) (x : Slot) : Bool := x.state != .free && x.transponder == some t

/-- The lowest slot number that satisfies a test. -/
def findSlot (f : Slot → Bool) (s : State) : Option SlotNo := (List.finRange 128).find? (fun i => f (slotOf s i))

/-- The slot of a transponder among the slots that are not FREE (R92). -/
def slotFor (t : Nat) (s : State) : Option SlotNo := findSlot (holdsTransponder t) s

/-! ## The timed lists (R48, R111, R112, R135) -/

/-- The pending sector of a slot: what its pending link refers to (R111). -/
def pendingOf (s : State) (i : SlotNo) : Option PendingSector := s.table.pending.find? (fun e => e.slot == i)

/-- The settle entry of a slot: what its settle link refers to (R112). -/
def settleOf (s : State) (i : SlotNo) : Option SettleEntry := s.table.settle.find? (fun e => e.slot == i)

/-- The watch of a slot: what its watch link refers to (R135). -/
def watchOf (s : State) (i : SlotNo) : Option Watch := s.table.watch.find? (fun e => e.slot == i)

/-- The trap wait of a slot: its trap state (R48). -/
def trapOf (s : State) (i : SlotNo) : Option TrapWait := s.table.trap.find? (fun e => e.slot == i)

/-- An entry takes its place in a list kept by time, behind the entries of equal time (R48, R111, R112, R135). -/
def insertByTime {α : Type} (time : α → Time) (x : α) (l : List α) : List α :=
  l.takeWhile (fun y => !isBefore (time x) (time y)) ++ x :: l.dropWhile (fun y => !isBefore (time x) (time y))

/-- The pending sector of a slot is removed with its link and due item (R101). -/
def removePending (i : SlotNo) (s : State) : State :=
  { s with table := { s.table with pending := s.table.pending.filter (fun e => e.slot != i) } }

/-- The settle entry of a slot is removed with its link and due item (R101). -/
def removeSettle (i : SlotNo) (s : State) : State :=
  { s with table := { s.table with settle := s.table.settle.filter (fun e => e.slot != i) } }

/-- The watch of a slot is removed with its link and due item (R101, R137). -/
def removeWatch (i : SlotNo) (s : State) : State :=
  { s with table := { s.table with watch := s.table.watch.filter (fun e => e.slot != i) } }

/-- The trap wait of a slot is removed with its due item (R52, R101). -/
def removeTrap (i : SlotNo) (s : State) : State :=
  { s with table := { s.table with trap := s.table.trap.filter (fun e => e.slot != i) } }

/-- A pending sector joins the pending list (R111). -/
def addPending (e : PendingSector) (s : State) : State :=
  { s with table := { s.table with pending := insertByTime (·.expiry) e s.table.pending } }

/-- A settle entry joins the settle list (R112). -/
def addSettle (e : SettleEntry) (s : State) : State :=
  { s with table := { s.table with settle := insertByTime (·.expiry) e s.table.settle } }

/-- A watch joins the watch list (R135). -/
def addWatch (e : Watch) (s : State) : State :=
  { s with table := { s.table with watch := insertByTime (·.dueTime) e s.table.watch } }

/-- A trap wait joins the list of trap waits (R48). -/
def addTrap (e : TrapWait) (s : State) : State :=
  { s with table := { s.table with trap := insertByTime (·.expiry) e s.table.trap } }

/-! ## The TIMER queue (R101) -/

/-- The lists of the TIMER queue, in the order of equal times (R101). -/
inductive DueKind where
  | pending | settle | watch | trap
deriving DecidableEq, Repr

/-- An item of the TIMER queue (R101). -/
structure DueItem where
  kind : DueKind
  slot : SlotNo
  time : Time
deriving DecidableEq, Repr

/-- The items of the TIMER queue: the entries marked due, list by list in the order pending, settle, watch, trap, each list in its
own order (R101). -/
def dueItems (s : State) : List DueItem :=
  (s.table.pending.filter (·.due)).map (fun e => { kind := .pending, slot := e.slot, time := e.expiry }) ++
  (s.table.settle.filter (·.due)).map (fun e => { kind := .settle, slot := e.slot, time := e.expiry }) ++
  (s.table.watch.filter (·.due)).map (fun e => { kind := .watch, slot := e.slot, time := e.dueTime }) ++
  (s.table.trap.filter (·.due)).map (fun e => { kind := .trap, slot := e.slot, time := e.expiry })

/-- The item of the earliest time, the first of several (R101). -/
def oldestDue : List DueItem → Option DueItem
  | [] => none
  | x :: xs =>
    match oldestDue xs with
    | none => some x
    | some y => if isBefore y.time x.time then some y else some x

/-- TIMER stops waiting where every item of its queue has been withdrawn, and its bypass count becomes 0 (R101, R104). -/
def settleTimer (s : State) : State :=
  { s with table := { s.table with bypass :=
    { s.table.bypass with timer := if (dueItems s).isEmpty then 0 else s.table.bypass.timer } } }

/-- PAIR_WAIT_DUE (R111): the pending sector of a slot whose expiry has come joins the TIMER queue. -/
def execPairWaitDue (slot : SlotNo) (s : State) : Host.Outcome State Fault Refusal :=
  .next { s with table := { s.table with pending := s.table.pending.map (fun e =>
    if e.slot = slot ∧ reached e.expiry s.now then { e with due := true } else e) } }

/-- SETTLE_DUE (R112): the settle entry of a slot whose expiry has come joins the TIMER queue. -/
def execSettleDue (slot : SlotNo) (s : State) : Host.Outcome State Fault Refusal :=
  .next { s with table := { s.table with settle := s.table.settle.map (fun e =>
    if e.slot = slot ∧ reached e.expiry s.now then { e with due := true } else e) } }

/-- WATCH_DUE (R135): the watch of a slot whose due time has come joins the TIMER queue. -/
def execWatchDue (slot : SlotNo) (s : State) : Host.Outcome State Fault Refusal :=
  .next { s with table := { s.table with watch := s.table.watch.map (fun e =>
    if e.slot = slot ∧ reached e.dueTime s.now then { e with due := true } else e) } }

/-- TRAP_WAIT_DUE (R48): the trap wait of a slot whose expiry has come joins the TIMER queue. -/
def execTrapWaitDue (slot : SlotNo) (s : State) : Host.Outcome State Fault Refusal :=
  .next { s with table := { s.table with trap := s.table.trap.map (fun e =>
    if e.slot = slot ∧ reached e.expiry s.now then { e with due := true } else e) } }

/-! ## Allocation and reclaim (R94, R97, R98) -/

/-- A slot allocated to a transponder (R97). -/
def allocatedSlot (t : Nat) (now : Time) : Slot :=
  { Slot.empty with state := .active, transponder := some t, lastActivity := some now }

/-- The slot may be reclaimed (R98). -/
def reclaimable (s : State) (i : SlotNo) : Bool :=
  let x := slotOf s i
  x.state == .active && !x.rostered &&
  (match x.lastActivity with
    | none => false
    | some t => decide ((Config.reclaimAge : Int) ≤ timeDiff s.now t)) &&
  (pendingOf s i).isNone && (settleOf s i).isNone && (watchOf s i).isNone && (trapOf s i).isNone

/-- `i` was active before `j` (R98). -/
def idleLonger (s : State) (i j : SlotNo) : Bool :=
  match (slotOf s i).lastActivity, (slotOf s j).lastActivity with
  | some a, some b => isBefore a b
  | _, _ => false

/-- Of slot numbers in rising order, the one with the earliest last activity, the lowest of several (R98). -/
def longestIdle (s : State) : List SlotNo → Option SlotNo
  | [] => none
  | i :: is =>
    match longestIdle s is with
    | none => some i
    | some j => if idleLonger s j i then some j else some i

/-- The slot that reclaim takes, if there is a candidate (R98). -/
def reclaimSlot (s : State) : Option SlotNo := longestIdle s ((List.finRange 128).filter (reclaimable s))

/-- A log entry when slots `gone` are cleared or reclaimed: a passing processed in one of them has its slot no more (R98, R127). -/
def releaseEntry (gone : SlotNo → Bool) (e : LogEntry) : LogEntry := { e with released := e.released || e.slot.any gone }

/-- The log when slots `gone` are cleared or reclaimed. -/
def releaseSlots (gone : SlotNo → Bool) (s : State) : State :=
  { s with log := { s.log with places := s.log.places.map (fun q => { q with entry := q.entry.map (releaseEntry gone) }) } }

/-- A slot that was reclaimed for a transponder: its contents are discarded, and it is counted (R98). -/
def reclaimFor (t : Nat) (i : SlotNo) (s : State) : State :=
  let r := setSlot i (allocatedSlot t s.now) (releaseSlots (fun j => j == i) s)
  { r with table := { r.table with reclaimed := countUp r.table.reclaimed } }

/-- A slot is given to a transponder that holds none: the lowest FREE slot, or else a reclaimed one (R97, R98). -/
def giveSlot (t : Nat) (s : State) : Option (SlotNo × State) :=
  match findSlot (fun x => x.state == .free) s with
  | some i => some (i, setSlot i (allocatedSlot t s.now) s)
  | none =>
    match reclaimSlot s with
    | some i => some (i, reclaimFor t i s)
    | none => none

/-- The slot in which a passing is processed: the transponder's own, or in OPEN admission one given to it (R97). -/
def slotToProcess (p : Params) (t : Nat) (s : State) : Option (SlotNo × State) :=
  match slotFor t s with
  | some i => some (i, s)
  | none =>
    match p.admission with
    | .anyone => giveSlot t s
    | .rosterOnly => none

/-- The slot becomes ACTIVE and its last activity is the time of the grant (R94). -/
def touchSlot (i : SlotNo) (s : State) : State :=
  setSlot i { slotOf s i with state := .active, lastActivity := some s.now } s

/-! ## Reading slots (R106) -/

/-- Slot `i` with what its links refer to (R106). -/
def slotView (s : State) (i : SlotNo) : SlotView :=
  { slotNo := i, slot := slotOf s i, pending := pendingOf s i, settle := settleOf s i, watch := watchOf s i, trap := trapOf s i }

/-- The competitor number of a slot. -/
def competitorOf (s : State) (i : SlotNo) : Nat := (slotOf s i).competitor

/-- The transponder of a slot. -/
def transponderOf (s : State) (i : SlotNo) : Nat := ((slotOf s i).transponder).getD 0

end Sys2Proof.Machine
end

