-- ==== Sys2Proof/Machine/Trap.lean ====
section
/-! DEFINITION. The trap logic (3.3): trap waits, the judgement of a pair, and SPEED records. -/

namespace Sys2Proof.Machine

/-- One half of a trap pair: a passing on A or a trap mark on B (R47, R48). -/
structure TrapItem where
  side : TrapSide
  instant : Time
  /-- The passing number; present for ENTRY. -/
  number : Option Nat
  flags : Flags
deriving DecidableEq, Repr

/-- The item a trap wait holds. -/
def heldItem (w : TrapWait) : TrapItem := { side := w.side, instant := w.instant, number := w.number, flags := w.flags }

/-- The outcome of a pair (R50). -/
inductive Judgement where
  | reversed
  | outOfWindow
  | speed (v : Nat) (saturated : Bool)
deriving DecidableEq, Repr

/-- The speed in units of 0.1 km/h before saturation (R50). -/
def rawSpeed (distance : Nat) (delta : Nat) : Nat := roundHalfUp (distance * 360000) delta

/-- The judgement of a pair on the difference of its instants, B less A (R50). -/
def judgeSpeed (p : Params) (delta : Int) : Judgement :=
  if delta ≤ 0 then .reversed
  else if (p.trapWindow * 1000 : Nat) < delta then .outOfWindow
  else .speed (min 9999 (rawSpeed p.trapDistance delta.toNat)) (decide (9999 < rawSpeed p.trapDistance delta.toNat))

/-- The SPEED record of a held half that ends without its partner (R49, R52). -/
def loneRecord (s : State) (i : SlotNo) (x : TrapItem) : SpeedRec :=
  { slot := i, transponder := transponderOf s i, competitor := competitorOf s i, entryNumber := x.number,
    entryInstant := if x.side = .entry then some x.instant else none,
    exitInstant := if x.side = .exit then some x.instant else none,
    delta := none, speed := none, reason := some .outOfWindow, flags := 0,
    entryFlags := if x.side = .entry then some x.flags else none,
    exitFlags := if x.side = .exit then some x.flags else none }

/-- The SPEED record of a judged pair, `a` on A and `b` on B (R51). -/
def pairRecord (p : Params) (s : State) (i : SlotNo) (a b : TrapItem) : SpeedRec :=
  let delta := timeDiff b.instant a.instant
  { slot := i, transponder := transponderOf s i, competitor := competitorOf s i, entryNumber := a.number,
    entryInstant := some a.instant, exitInstant := some b.instant, delta := some delta,
    speed := match judgeSpeed p delta with
      | .speed v _ => some v
      | _ => none,
    reason := match judgeSpeed p delta with
      | .reversed => some .reversed
      | .outOfWindow => some .outOfWindow
      | .speed .. => none,
    flags := match judgeSpeed p delta with
      | .speed _ sat => addFlagIf sat 0 .saturated
      | _ => 0,
    entryFlags := some a.flags, exitFlags := some b.flags }

/-- A computed speed is written into the log entry of the entry passing (R51). -/
def writeSpeed (p : Params) (a b : TrapItem) (s : State) : State :=
  match judgeSpeed p (timeDiff b.instant a.instant), a.number with
  | .speed v sat, some n => updateLog n (fun e => { e with speed := some { speed := v, saturated := sat, exitFlags := b.flags } }) s
  | _, _ => s

/-- A pair is judged: a SPEED record is issued, and the wait is removed (R49 to R51). -/
def judgePair (p : Params) (i : SlotNo) (a b : TrapItem) (s : State) : State :=
  removeTrap i (writeSpeed p a b (offerRecord (.speed (pairRecord p s i a b)) s))

/-- A trap wait is made that holds an item taken now (R48). -/
def holdItem (p : Params) (i : SlotNo) (x : TrapItem) (s : State) : State :=
  addTrap { slot := i, side := x.side, instant := x.instant, number := x.number, flags := x.flags,
            expiry := later s.now (p.trapWindow * 1000), due := false } s

/-- A held half ends with its OUT_OF_WINDOW record, and its wait is removed (R49, R52). -/
def endWait (i : SlotNo) (x : TrapItem) (s : State) : State := removeTrap i (offerRecord (.speed (loneRecord s i x)) s)

/-- An item taken by the trap logic acts on the trap state of its slot (R49). -/
def takeTrapItem (p : Params) (i : SlotNo) (x : TrapItem) (s : State) : State :=
  match trapOf s i with
  | none => holdItem p i x s
  | some w =>
    match w.side, x.side with
    | .entry, .exit => judgePair p i (heldItem w) x s
    | .exit, .entry => judgePair p i x (heldItem w) s
    | _, _ => holdItem p i x (endWait i (heldItem w) s)

/-- The trap logic takes items: the arrangement is TRAP and the station is RUNNING (R47, R54). -/
def trapActive (p : Params) (s : State) : Bool := p.arrangement == .trap && isRunning s

/-- A trap mark that a LOCAL grant has taken: looked up, and discarded where its transponder holds no slot (R47). A ROSTERED slot takes a
trap wait too and stays ROSTERED (R47, R49), though R93 has every part of it in its initial state (DEDUCED,
notes/assumptions/54.md). -/
def takeMark (p : Params) (m : LocalItem) (s : State) : State :=
  if trapActive p s then
    match slotFor m.transponder s with
    | none => s
    | some i => takeTrapItem p i { side := .exit, instant := m.instant, number := none, flags := m.flags } s
  else s

/-- The expiry of a slot's trap wait is taken (R52). -/
def expireTrap (i : SlotNo) (s : State) : State :=
  match trapOf s i with
  | none => s
  | some w => endWait i (heldItem w) s

end Sys2Proof.Machine
end

