-- ==== Sys2Proof/Machine/Pairing.lean ====
section
/-! DEFINITION. The pairing unit and the forecast unit (chapters 7 and 8): sectors and their records, watches, the processing of
local passings, feeder passings, revisions, withdrawals and retimes. -/

namespace Sys2Proof.Machine

/-! ## Sector values and records (R110, R119, R134) -/

/-- A sector value in range: greater than 0 and not greater than the max sector (R110). -/
def inRange (p : Params) (v : Int) : Bool := decide (0 < v) && decide (v ≤ (p.maxSector * 1000 : Nat))

/-- A value in range that is less than the min sector is SHORT (R110). -/
def isShort (p : Params) (v : Int) : Bool := decide (v < (p.minSector * 1000 : Nat))

/-- The forecast unit's update of E and c by a sector value (R134). -/
def learnSector (p : Params) (v : Nat) (x : Slot) : Slot :=
  let tolerance := x.expected * p.tolerance / 256
  let c :=
    if x.expected = 0 then x.confidence
    else if max v x.expected - min v x.expected ≤ tolerance then min (x.confidence + 1) p.confidenceMax
    else x.confidence - 1
  { x with confidence := c, expected := v }

/-- A PAIRED record that carries none of SHORT, CLOCK_SOFT and FORECAST is learned from (R134). -/
def isClean (w : Flags) : Bool := !hasFlag w .short && !hasFlag w .clockSoft && !hasFlag w .forecast

/-- The slot after a SECTOR record is issued for it: its last issued sector is replaced, and a PAIRED record reaches the forecast
unit (R119, R134). -/
def slotAfterSector (p : Params) (r : SectorRec) (x : Slot) : Slot :=
  let y := { x with issued := some { number := r.number, tag := r.tag, value := r.sector, flags := r.flags } }
  match r.outcome, r.sector with
  | .paired, some v => if isClean r.flags then learnSector p v y else y
  | _, _ => y

/-- The sector result of a SECTOR record (R119, R150). -/
def sectorResult (r : SectorRec) : SectorResult :=
  { outcome := r.outcome, value := r.sector, reason := r.reason, tag := r.tag, flags := r.flags, amended := false }

/-- What the issue of a SECTOR record brings about beside the record: last issued sector, log entry, forecast unit (R119). -/
def putSector (p : Params) (r : SectorRec) (s : State) : State :=
  updateLog r.number (fun e => { e with sector := some (sectorResult r) })
    (setSlot r.slot (slotAfterSector p r (slotOf s r.slot)) s)

/-- A SECTOR record is issued (R119). -/
def issueSector (p : Params) (r : SectorRec) (s : State) : State := offerRecord (.sector r) (putSector p r s)

/-- A SECTOR record with a value (R119). -/
def pairedRec (s : State) (i : SlotNo) (number : Nat) (instant : Time) (tag : Tag) (feederInstant : Time) (v : Nat) (w : Flags) :
    SectorRec :=
  { slot := i, transponder := transponderOf s i, competitor := competitorOf s i, number := number, instant := instant,
    tag := some tag, feederInstant := some feederInstant, outcome := .paired, sector := some v, reason := none, flags := w }

/-- A SECTOR record without a value (R119). -/
def unpairedRec (s : State) (i : SlotNo) (number : Nat) (instant : Time) (tag : Option Tag) (feederInstant : Option Time)
    (reason : Reason) (w : Flags) : SectorRec :=
  { slot := i, transponder := transponderOf s i, competitor := competitorOf s i, number := number, instant := instant,
    tag := tag, feederInstant := feederInstant, outcome := .unpaired, sector := none, reason := some reason, flags := w }

/-- The record that ends a pending sector no feeder passing met (R116, R122, R128, R131). -/
def pendingEndRec (s : State) (e : PendingSector) (reason : Reason) : SectorRec :=
  unpairedRec s e.slot e.number e.instant none none reason 0

/-! ## Settle entries (R117, R123) -/

/-- A settle entry's value recomputed against a feeder instant: PAIRED with REVISED where it is in range, and else UNPAIRED,
REVISED_OUT. CLOCK_SOFT and FORECAST stand in both; REVISED and SHORT belong to a value in range (R110, R123). -/
def recomputedRec (p : Params) (s : State) (e : SettleEntry) (feederInstant : Time) (soft : Bool) : SectorRec :=
  let v := timeDiff e.instant feederInstant
  if inRange p v then
    pairedRec s e.slot e.number e.instant e.tag feederInstant v.toNat
      (addFlag (sectorFlags (isShort p v) soft (hasFlag e.flags .forecast)) .revised)
  else
    unpairedRec s e.slot e.number e.instant (some e.tag) (some feederInstant) .revisedOut
      (sectorFlags false soft (hasFlag e.flags .forecast))

/-- The record of a settle entry as its hold and its local retimed mark decide (R123). -/
def settleRec (p : Params) (s : State) (e : SettleEntry) : SectorRec :=
  match e.hold with
  | .held =>
    if e.retimed then recomputedRec p s e e.feederInstant (hasFlag e.flags .clockSoft)
    else pairedRec s e.slot e.number e.instant e.tag e.feederInstant e.sector e.flags
  | .retimed (some t) clock => recomputedRec p s e t (clock == .soft)
  | .retimed none _ =>
    unpairedRec s e.slot e.number e.instant (some e.tag) none .noClock (unstatedFlags e.number e.flags)
  | .withdrawn =>
    unpairedRec s e.slot e.number e.instant (some e.tag) (some e.feederInstant) .withdrawn (unstatedFlags e.number e.flags)

/-- The record of a settle entry issued before its expiry: as it stands, with UNSETTLED added (R117, R123, R131). -/
def earlyRec (p : Params) (s : State) (e : SettleEntry) : SectorRec :=
  let r := settleRec p s e
  { r with flags := addFlag r.flags .unsettled }

/-- A pair found by R116 or R120. -/
structure SectorPair where
  number : Nat
  instant : Time
  tag : Tag
  feederInstant : Time
  value : Nat
  flags : Flags
deriving DecidableEq, Repr

/-- The settle entry of a pair made now (R112, R117). -/
def settleEntryOf (p : Params) (i : SlotNo) (x : SectorPair) (now : Time) : SettleEntry :=
  { slot := i, number := x.number, instant := x.instant, retimed := false, tag := x.tag, feederInstant := x.feederInstant,
    sector := x.value, flags := x.flags, hold := .held, expiry := later now (p.settleTime * 1000), due := false }

/-- A state with the records that a step has made and that are still to be issued, in order. -/
abbrev WithRecords := State × List RecordBody

/-- The SECTOR record of a pair is made at once. -/
def pairAtOnce (p : Params) (i : SlotNo) (x : SectorPair) (w : Flags) (s : State) : WithRecords :=
  let r := pairedRec s i x.number x.instant x.tag x.feederInstant x.value w
  (putSector p r s, [.sector r])

/-- A paired sector becomes a settle entry, or its record is made at once (R117; after HALT, R131). -/
def takePair (p : Params) (i : SlotNo) (x : SectorPair) (s : State) : WithRecords :=
  if !isRunning s then pairAtOnce p i x (addFlag x.flags .unsettled) s
  else if p.settleTime = 0 then pairAtOnce p i x x.flags s
  else
    match settleOf s i with
    | some e =>
      let r := earlyRec p s e
      (addSettle (settleEntryOf p i x s.now) (removeSettle i (putSector p r s)), [.sector r])
    | none =>
      if s.table.settle.length < Config.settlePlaces then (addSettle (settleEntryOf p i x s.now) s, [])
      else pairAtOnce p i x (addFlag x.flags .unsettled) s

/-- The expiry of a slot's settle entry is taken (R123). -/
def expireSettle (p : Params) (i : SlotNo) (s : State) : State :=
  match settleOf s i with
  | none => s
  | some e => removeSettle i (issueSector p (settleRec p s e) s)

/-- The expiry of a slot's pending sector is taken (R122). -/
def expirePending (p : Params) (i : SlotNo) (s : State) : State :=
  match pendingOf s i with
  | none => s
  | some e => removePending i (issueSector p (pendingEndRec s e .noFeeder) s)

/-! ## Watches (R136) -/

/-- The due time of a watch armed from feeder instant `t` (R136). -/
def watchDueTime (p : Params) (t : Time) (expected : Nat) : Time := later t (expected + expected * p.slack / 16)

/-- The sticky flag WATCH_FULL is set (R136). -/
def setWatchFull (s : State) : State := { s with table := { s.table with watchFull := true } }

/-- The watch of slot `i` armed now from a feeder passing of instant `t`; one whose due time is not after the grant is due at once
(R136). -/
def freshWatch (p : Params) (i : SlotNo) (f : FeederRecord) (t : Time) (s : State) : Watch :=
  let dueTime := watchDueTime p t (slotOf s i).expected
  { slot := i, dueTime := dueTime, tag := f.tag, expected := (slotOf s i).expected, due := reached dueTime s.now }

/-- A watch is armed from the slot's feeder record where its instant is present and c is at least FC (R136). -/
def armFresh (p : Params) (i : SlotNo) (s : State) : State :=
  match (slotOf s i).feeder with
  | none => s
  | some f =>
    match f.instant with
    | none => s
    | some t =>
      if p.forecastThreshold ≤ (slotOf s i).confidence then
        if s.table.watch.length < Config.watchPlaces then addWatch (freshWatch p i f t s) s else setWatchFull s
      else s

/-- The slot's watch is removed with its due item, with which TIMER may stop waiting (R104), and a new one is armed where R136 allows
(R136, R137). -/
def armWatch (p : Params) (i : SlotNo) (s : State) : State := armFresh p i (settleTimer (removeWatch i s))

/-! ## Withdrawing a passing (R128, R142, R144) -/

/-- The AMEND record of a passing of slot `i`. -/
def amendRec (s : State) (i : SlotNo) (number : Nat) (what : Amendment) : RecordBody :=
  .amend { slot := some i, transponder := transponderOf s i, competitor := competitorOf s i, number := number, what := what }

/-- The slot with the lap of a withdrawn passing taken back; the best lap is restored where it was the last passing (R128). -/
def uncountLap (isLast : Bool) (x : Slot) : Slot :=
  if isLast then { x with lapCount := x.lapCount - 1, bestLap := x.bestBefore, bestBefore := none, lastLap := none }
  else { x with lapCount := x.lapCount - 1 }

/-- AMEND LAP of a slot as it stands (R126, R128). -/
def amendLapRec (s : State) (i : SlotNo) (number : Nat) (w : Flags) : RecordBody :=
  let x := slotOf s i
  amendRec s i number (.lap x.lapCount x.lastLap x.bestLap w)

/-- The last local passing after the previous counted passing has taken its place, with the flags of that passing's log entry (R128). -/
def revertedLast (s : State) : Option (Nat × Time) → Option LastPassing
  | none => none
  | some (n, t) =>
    some { number := n, instant := t, flags := ((logEntry s n).map (·.flags)).getD 0, span := none,
           lapCounted := ((logEntry s n).bind (·.lap)).isSome }

/-- The slot without passing `n` as its last local or previous counted passing (R128). -/
def forgetPassing (s : State) (n : Nat) (x : Slot) : Slot :=
  if (x.last.map (·.number)) = some n then { x with last := revertedLast s x.previous, previous := none }
  else if (x.previous.map (·.1)) = some n then { x with previous := none }
  else x

/-- A lap-counted passing's lap is taken back, with AMEND LAP (R128). -/
def withdrawLap (i : SlotNo) (n : Nat) (lapCounted : Bool) (s : State) : State :=
  if lapCounted then
    let t := setSlot i (uncountLap ((slotOf s i).last.map (·.number) = some n) (slotOf s i)) s
    offerRecord (amendLapRec t i n 0) t
  else s

/-- The pending sector of passing `n` ends WITHDRAWN (R128). -/
def withdrawPending (p : Params) (i : SlotNo) (n : Nat) (s : State) : State :=
  match pendingOf s i with
  | none => s
  | some e => if e.number = n then issueSector p (pendingEndRec s e .withdrawn) (removePending i s) else s

/-- The settle entry of passing `n` is removed with SECTOR UNPAIRED, WITHDRAWN (R128). The record gives the feeder instant of the
pairing, also where the hold was cleared by a RETIME that brought a new one (DESIGN CHOICE, notes/assumptions/42.md). -/
def withdrawSettle (p : Params) (i : SlotNo) (n : Nat) (s : State) : State :=
  match settleOf s i with
  | none => s
  | some e =>
    if e.number = n then
      issueSector p
        (unpairedRec s i e.number e.instant (some e.tag) (some e.feederInstant) .withdrawn (unstatedFlags e.number e.flags))
        (removeSettle i s)
    else s

/-- The log's sector result after an AMEND SECTOR record (R126, R150). -/
def amendedResult (tag : Option Tag) (v : Option Nat) (reason : Reason) (w : Flags) : SectorResult :=
  { outcome := if v.isSome then .paired else .unpaired, value := v, reason := some reason, tag := tag, flags := w, amended := true }

/-- An AMEND SECTOR record for the slot's last issued sector `x` (R126). -/
def amendSector (i : SlotNo) (x : IssuedSector) (v : Option Nat) (reason : Reason) (w : Flags) (s : State) : State :=
  offerRecord (amendRec s i x.number (.sector x.tag v reason w))
    (updateLog x.number (fun e => { e with sector := some (amendedResult x.tag v reason w) })
      (setSlot i { slotOf s i with issued := some { x with value := v, flags := w } } s))

/-- The last issued sector of passing `n` loses its value (R128). -/
def withdrawIssued (i : SlotNo) (n : Nat) (s : State) : State :=
  match (slotOf s i).issued with
  | none => s
  | some x =>
    if x.number = n ∧ x.value.isSome then amendSector i x none .withdrawn (unstatedFlags x.number x.flags) s else s

/-- A trap wait that holds passing `n` is removed without a record (R53). -/
def withdrawTrap (i : SlotNo) (n : Nat) (s : State) : State :=
  match trapOf s i with
  | none => s
  | some w => if w.side = .entry ∧ w.number = some n then removeTrap i s else s

/-- The spent feeder becomes the feeder record, where one is held (R142, R144). -/
def restoreSpent (x : Slot) : Slot :=
  match x.spent with
  | none => x
  | some f => { x with feeder := some f, spent := none }

/-- Passing `n` is the slot's last local passing and is FORECAST. -/
def isLastForecast (n : Nat) (x : Slot) : Bool :=
  match x.last with
  | none => false
  | some l => l.number == n && hasFlag l.flags .forecast

/-- The withdrawal of passing `n` in its slot (R128), with the restoring of the spent feeder where `n` is a FORECAST passing and the
slot's last (R142, R144). -/
def withdrawInSlot (p : Params) (i : SlotNo) (n : Nat) (lapCounted : Bool) (s : State) : State :=
  let restores := isLastForecast n (slotOf s i)
  let a := withdrawLap i n lapCounted s
  let b := setSlot i (forgetPassing a n (slotOf a i)) a
  let c := withdrawTrap i n (withdrawIssued i n (withdrawSettle p i n (withdrawPending p i n b)))
  if restores then setSlot i (restoreSpent (slotOf c i)) c else c

/-- A log entry marked WITHDRAWN. -/
def markWithdrawn (e : LogEntry) : LogEntry := { e with withdrawn := true }

/-- Passing `n` is withdrawn in the log, on the line and in an AMEND PASSING record `amend` (R128). -/
def withdrawOutside (n transponder : Nat) (amend : RecordBody) (s : State) : State :=
  offerRecord amend (offerRevision n transponder .withdraw (updateLog n markWithdrawn s))

/-! ## Processing a local passing (R113 to R118) -/

/-- Where a local passing comes from (7.2). -/
inductive PassingKind where
  /-- From the loop. -/
  | loop
  | manual | forecast
deriving DecidableEq, Repr

/-- A local passing to be processed. -/
structure NewPassing where
  kind : PassingKind
  number : Nat
  transponder : Nat
  instant : Time
  flags : Flags
  peak : Option Nat
  peakChannel : Option Channel
  hitCount : Option Nat
  /-- The forecast span of a FORECAST passing (R138). -/
  span : Option Nat
deriving DecidableEq, Repr

/-- The forecast replacement test and the replacement (R141, R142). -/
def replaceForecast (p : Params) (i : SlotNo) (x : NewPassing) (s : State) : State :=
  match (slotOf s i).last with
  | none => s
  | some l =>
    match l.span with
    | none => s
    | some span =>
      if 2 * (timeDiff x.instant l.instant).natAbs < span then
        withdrawInSlot p i l.number l.lapCounted
          (withdrawOutside l.number (transponderOf s i) (amendRec s i l.number .withdrawn) s)
      else s

/-- The REPEAT test (R114). -/
def isRepeat (p : Params) (x : NewPassing) (y : Slot) : Bool :=
  x.kind == .loop &&
  match y.last with
  | none => false
  | some l => decide (timeDiff x.instant l.instant < (p.repeatWindow * 1000 : Nat))

/-- The log entry of a passing as step 6 writes it (R118, R150). -/
def entryOf (x : NewPassing) (slot : Option SlotNo) (w : Flags) (now : Time) : LogEntry :=
  { number := x.number, transponder := x.transponder, slot := slot, instant := x.instant, processed := now, flags := w,
    peak := x.peak, peakChannel := x.peakChannel, hitCount := x.hitCount, lap := none, sector := none, speed := none,
    withdrawn := false, retimed := false, unsent := none, released := false }

/-- The PASSING record (R118). -/
def passingRec (x : NewPassing) (slot : Option SlotNo) (competitor : Nat) (lapCount : Option Nat) (w : Flags) : RecordBody :=
  .passing { number := x.number, slot := slot, transponder := x.transponder, competitor := competitor, instant := x.instant,
             flags := w, peak := x.peak, peakChannel := x.peakChannel, hitCount := x.hitCount, lapCount := lapCount }

/-- The PASSING record of a passing processed in slot `i` (R118). -/
def slotPassingRec (p : Params) (s : State) (i : SlotNo) (x : NewPassing) (w : Flags) : RecordBody :=
  passingRec x (some i) (competitorOf s i) (if p.lapLine then some (slotOf s i).lapCount else none) w

/-- The slot after a passing is counted without regard to laps (R115). -/
def countedSlot (x : NewPassing) (w : Flags) (lapCounted : Bool) (y : Slot) : Slot :=
  { y with
    previous := y.last.map (fun l => (l.number, l.instant))
    last := some { number := x.number, instant := x.instant, flags := w, span := x.span, lapCounted := lapCounted }
    spent := none }

/-- The lap is the best: the best lap time was absent or greater (R115). -/
def beatsBest (lap : Int) : Option Int → Bool
  | none => true
  | some b => decide (lap < b)

/-- The slot after a lap is counted (R115). -/
def lappedSlot (lap : Int) (y : Slot) : Slot :=
  { y with
    lapCount := countUp y.lapCount
    lastLap := some lap
    bestBefore := y.bestLap
    bestLap := if beatsBest lap y.bestLap then some lap else y.bestLap }

/-- The flags of a LAP record (R115). -/
def lapRecFlags (best : Bool) (earlier later : Flags) : Flags :=
  let either (f : Flag) : Bool := hasFlag earlier f || hasFlag later f
  addFlagIf (either .manual) (addFlagIf (either .forecast) (addFlagIf best 0 .best) .forecast) .manual

/-- The LAP record of a slot that has just counted a lap (R115). -/
def lapRec (s : State) (i : SlotNo) (number : Nat) (lap : Int) (w : Flags) : RecordBody :=
  let y := slotOf s i
  .lap { slot := i, transponder := transponderOf s i, competitor := y.competitor, number := number, lapCount := y.lapCount,
         lapTime := lap, bestLap := y.bestLap.getD lap, flags := w }

/-- The lap result of a log entry is written (R115, R129). -/
def writeLap (n count : Nat) (lap : Int) (best : Bool) (s : State) : State :=
  updateLog n (fun e => { e with lap := some { count := count, time := lap, best := best } }) s

/-- Step 3: the passing is counted, and at a lap-line station a lap is counted where an earlier passing is held (R115). -/
def countPassing (p : Params) (i : SlotNo) (x : NewPassing) (w : Flags) (s : State) : WithRecords :=
  let y := slotOf s i
  match p.lapLine, y.last with
  | true, some l =>
    let lap := timeDiff x.instant l.instant
    let best := beatsBest lap y.bestLap
    let t := setSlot i (lappedSlot lap (countedSlot x w true y)) s
    (writeLap x.number (slotOf t i).lapCount lap best t, [lapRec t i x.number lap (lapRecFlags best l.flags w)])
  | _, _ => (setSlot i (countedSlot x w false y) s, [])

/-- The slot with another feeder record. -/
def setFeeder (i : SlotNo) (f : Option FeederRecord) (s : State) : State := setSlot i { slotOf s i with feeder := f } s

/-- The SECTOR record of a passing is made at once, without a value. -/
def unpairAtOnce (p : Params) (r : SectorRec) (s : State) : WithRecords := (putSector p r s, [.sector r])

/-- A pending sector is made for a passing (R111, R116), or its record at once where the pair wait is 0 (R116) or the session has been
halted (R131). -/
def makePending (p : Params) (i : SlotNo) (x : NewPassing) (s : State) : WithRecords :=
  if p.pairWait = 0 then unpairAtOnce p (unpairedRec s i x.number x.instant none none .noFeeder 0) s
  else if !isRunning s then unpairAtOnce p (unpairedRec s i x.number x.instant none none .halted 0) s
  else
    (addPending { slot := i, number := x.number, instant := x.instant, expiry := later s.now (p.pairWait * 1000), due := false } s, [])

/-- The spent feeder of a slot is set. -/
def setSpent (i : SlotNo) (f : Option FeederRecord) (s : State) : State := setSlot i { slotOf s i with spent := f } s

/-- The feeder record with a converted instant meets the passing (R116; for a FORECAST passing R139). -/
def meetFeeder (p : Params) (i : SlotNo) (x : NewPassing) (f : FeederRecord) (t : Time) (s : State) : WithRecords :=
  let v := timeDiff x.instant t
  if v ≤ 0 then makePending p i x s
  else if inRange p v then
    let consumed := setSpent i (if x.kind = .forecast then some f else (slotOf s i).spent) (setFeeder i none s)
    takePair p i
      { number := x.number, instant := x.instant, tag := f.tag, feederInstant := t, value := v.toNat,
        flags := sectorFlags (isShort p v) (f.clock == .soft) (hasFlag f.flags .forecast || x.kind == .forecast) } consumed
  else makePending p i x (setFeeder i none s)

/-- What the passing finds as the slot's feeder record (R116). -/
def meetRecord (p : Params) (i : SlotNo) (x : NewPassing) (s : State) : WithRecords :=
  match (slotOf s i).feeder with
  | none => makePending p i x s
  | some f =>
    match f.instant with
    | none =>
      unpairAtOnce p (unpairedRec s i x.number x.instant (some f.tag) none .noClock (unstatedFlags x.number f.flags))
        (setFeeder i none s)
    | some t => meetFeeder p i x f t s

/-- Step 5: an earlier pending sector of the slot ends, and the passing looks for its feeder passing (R116); a station without feeders
takes no such step (R110). -/
def sectorStep (p : Params) (i : SlotNo) (x : NewPassing) (s : State) : WithRecords :=
  if p.feeders.isEmpty then (s, [])
  else
    match pendingOf s i with
    | none => meetRecord p i x s
    | some e =>
      let r := pendingEndRec s e .noFeeder
      let m := meetRecord p i x (putSector p r (removePending i s))
      (m.1, .sector r :: m.2)

/-- Step 7: a loop passing is offered to the trap logic (R47). -/
def offerToTrap (p : Params) (i : SlotNo) (x : NewPassing) (w : Flags) (s : State) : State :=
  if trapActive p s && x.kind == .loop then
    takeTrapItem p i { side := .entry, instant := x.instant, number := some x.number, flags := w } s
  else s

/-- Steps 3 to 7 for a passing that is not REPEAT: counting, watch, sector, records in the order of R113, notice, trap logic. -/
def countAndPair (p : Params) (i : SlotNo) (x : NewPassing) (w : Flags) (s : State) : State :=
  let counted := countPassing p i x w s
  let paired := sectorStep p i x (removeWatch i counted.1)
  let issued := offerRecords (counted.2 ++ paired.2) (offerRecord (slotPassingRec p paired.1 i x w) paired.1)
  offerToTrap p i x w (offerPassing x.number x.transponder x.instant w issued)

/-- A passing processed in slot `i` (R113, R139): replacement test, REPEAT test, and the steps after it. -/
def processInSlot (p : Params) (i : SlotNo) (x : NewPassing) (s : State) : State :=
  let a := if x.kind = .forecast then s else replaceForecast p i x (touchSlot i s)
  let w := addFlagIf (isRepeat p x (slotOf a i)) x.flags .repeated
  let b := writeLog x.number (entryOf x (some i) w s.now) a
  if isRepeat p x (slotOf a i) then
    offerPassing x.number x.transponder x.instant w (offerRecord (slotPassingRec p b i x w) b)
  else countAndPair p i x w b

/-- A passing without a slot, processed UNTRACKED (R99). -/
def processUntracked (x : NewPassing) (s : State) : State :=
  let w := addFlag x.flags .untracked
  let a := writeLog x.number (entryOf x none w s.now) s
  let b := { a with table := { a.table with untracked := countUp a.table.untracked } }
  offerPassing x.number x.transponder x.instant w (offerRecord (passingRec x none 0 none w) b)

/-- A local passing is processed within the operation that brings it (R113). -/
def processPassing (p : Params) (x : NewPassing) (s : State) : State :=
  match slotToProcess p x.transponder s with
  | some (i, t) => processInSlot p i x t
  | none => processUntracked x s

/-! ## The due of a watch (R138, R139) -/

/-- The FORECAST passing of a watch whose feeder record has instant `t` (R138). -/
def forecastPassing (s : State) (i : SlotNo) (w : Watch) (n : Nat) (t : Time) : NewPassing :=
  { kind := .forecast, number := n, transponder := transponderOf s i, instant := later t w.expected,
    flags := flagWord .forecast, peak := none, peakChannel := none, hitCount := none, span := some w.expected }

/-- The confidence is halved (R139). -/
def halveConfidence (i : SlotNo) (s : State) : State :=
  setSlot i { slotOf s i with confidence := (slotOf s i).confidence / 2 } s

/-- A number is drawn and the FORECAST passing is made and processed; a draw that finds the counter EXHAUSTED makes none (R138, R148). -/
def makeForecast (p : Params) (i : SlotNo) (w : Watch) (t : Time) (s : State) : State :=
  match drawNumber s with
  | (none, u) => u
  | (some n, u) => halveConfidence i (processInSlot p i (forecastPassing u i w n t) u)

/-- The due of a slot's watch is taken (R138). -/
def expireWatch (p : Params) (i : SlotNo) (s : State) : State :=
  match watchOf s i with
  | none => s
  | some w =>
    let r := removeWatch i s
    match (slotOf r i).feeder with
    | none => r
    | some f =>
      match f.instant with
      | none => r
      | some t => if f.tag = w.tag then makeForecast p i w t r else r

/-! ## Feeder passings (R120, R121) -/

/-- The feeder record made of a feeder passing. -/
def recordOf (tag : Tag) (instant : Option Time) (clock : ClockFlag) (w : Flags) : FeederRecord :=
  { tag := tag, instant := instant, clock := clock, flags := w }

/-- A feeder passing becomes the slot's feeder record: the spent feeder is cleared and a watch may be armed (R120, R121, R136). -/
def becomeRecord (p : Params) (i : SlotNo) (f : FeederRecord) (s : State) : State :=
  armWatch p i (setSpent i none (setFeeder i (some f) s))

/-- A feeder passing meets the pending sector `e` (R120). -/
def meetPending (p : Params) (i : SlotNo) (e : PendingSector) (f : FeederRecord) (s : State) : State :=
  match f.instant with
  | none =>
    setSpent i none
      (issueSector p (unpairedRec s i e.number e.instant (some f.tag) none .noClock (unstatedFlags e.number f.flags))
        (removePending i s))
  | some t =>
    let v := timeDiff e.instant t
    if v ≤ 0 then becomeRecord p i f s
    else if inRange p v then
      let m := takePair p i
        { number := e.number, instant := e.instant, tag := f.tag, feederInstant := t, value := v.toNat,
          flags := sectorFlags (isShort p v) (f.clock == .soft) (hasFlag f.flags .forecast) }
        (setSpent i none (removePending i s))
      offerRecords m.2 m.1
    else s

/-- The feeder passing lies before the slot's last local passing (R121). -/
def isPast (f : FeederRecord) (x : Slot) : Bool :=
  match f.instant, x.last with
  | some t, some l => isBefore t l.instant
  | _, _ => false

/-- A feeder passing acts on its slot (R120, R121). -/
def feederInSlot (p : Params) (i : SlotNo) (f : FeederRecord) (s : State) : State :=
  match pendingOf s i with
  | some e => meetPending p i e f s
  | none => if isPast f (slotOf s i) then s else becomeRecord p i f s

/-- A feeder passing for which no slot is found: dropped and counted in OPEN admission, ignored in ROSTER_ONLY (R97, R99). -/
def dropFeeder (p : Params) (s : State) : State :=
  match p.admission with
  | .anyone => { s with table := { s.table with dropped := countUp s.table.dropped } }
  | .rosterOnly => s

/-- A PASSING item of the line intake queue (R120). -/
def takeFeederPassing (p : Params) (transponder : Nat) (f : FeederRecord) (s : State) : State :=
  if hasFlag f.flags .repeated then s
  else
    match slotToProcess p transponder s with
    | some (i, t) => feederInSlot p i f (touchSlot i t)
    | none => dropFeeder p s

/-! ## Revisions from feeders (R124 to R126) -/

/-- The action of a REVISE item: withdrawal, or a retime with the converted instant and its clock flag (R89). -/
inductive FeederRevision where
  | withdraw
  | retime (instant : Option Time) (clock : ClockFlag)
deriving DecidableEq, Repr

/-- A feeder record or spent feeder after a revision (R124). -/
def reviseFeeder (f : FeederRecord) : FeederRevision → Option FeederRecord
  | .withdraw => none
  | .retime t c => some { f with instant := t, clock := c }

/-- The record carries the tag. -/
def carriesTag (tag : Tag) (f : Option FeederRecord) : Bool := f.map (·.tag) == some tag

/-- The revision's first place, the feeder record: with the watch removed or re-armed (R124, R137). A RETIME arms a watch wherever the
conditions of R136 hold, also where the slot held none: R137 says that it re-arms the watch, and R144 that none is armed as a spent
feeder is restored, not that a later RETIME of the restored record arms none (DESIGN CHOICE, notes/assumptions/47.md). -/
def reviseRecord (p : Params) (i : SlotNo) (tag : Tag) (r : FeederRevision) (s : State) : State :=
  if carriesTag tag (slotOf s i).feeder then
    armWatch p i (setFeeder i ((slotOf s i).feeder.bind (fun f => reviseFeeder f r)) s)
  else s

/-- The revision's second place, the spent feeder (R124). -/
def reviseSpent (i : SlotNo) (tag : Tag) (r : FeederRevision) (s : State) : State :=
  if carriesTag tag (slotOf s i).spent then setSpent i ((slotOf s i).spent.bind (fun f => reviseFeeder f r)) s else s

/-- The cause that a revision leaves in a settle entry (R125). -/
def holdCause : FeederRevision → Hold
  | .withdraw => .withdrawn
  | .retime t c => .retimed t c

/-- The revision's third place, the settle entry (R125). -/
def reviseSettle (i : SlotNo) (tag : Tag) (r : FeederRevision) (s : State) : State :=
  { s with table := { s.table with settle := s.table.settle.map (fun e =>
    if e.slot = i ∧ e.tag = tag then { e with hold := holdCause r } else e) } }

/-- The last issued sector `x` recomputed from the local instant and a new feeder instant (R126). -/
def amendByRetime (p : Params) (i : SlotNo) (x : IssuedSector) (localInstant t : Time) (clock : ClockFlag) (s : State) : State :=
  let v := timeDiff localInstant t
  if inRange p v then
    if x.value = some v.toNat then s
    else
      amendSector i x (some v.toNat) .revised (sectorFlags (isShort p v) (clock == .soft) (hasFlag x.flags .forecast)) s
  else if x.value.isNone then s
  else amendSector i x none .revisedOut (unstatedFlags x.number x.flags) s

/-- The last issued sector `x` under a revision, with the log entry `e` of its local passing (R126). -/
def amendIssued (p : Params) (i : SlotNo) (x : IssuedSector) (e : LogEntry) (r : FeederRevision) (s : State) : State :=
  match r with
  | .withdraw => if x.value.isSome then amendSector i x none .withdrawn (unstatedFlags x.number x.flags) s else s
  | .retime none _ => s
  | .retime (some t) c => amendByRetime p i x e.instant t c s

/-- The revision's fourth place, the last issued sector; not applied where the log entry is gone or WITHDRAWN (R126). -/
def reviseIssued (p : Params) (i : SlotNo) (tag : Tag) (r : FeederRevision) (s : State) : State :=
  match (slotOf s i).issued with
  | none => s
  | some x =>
    if x.tag = some tag then
      match logEntry s x.number with
      | none => s
      | some e => if e.withdrawn then s else amendIssued p i x e r s
    else s

/-- A REVISE item of the line intake queue, applied to each place that carries its tag (R124). -/
def takeFeederRevision (p : Params) (tag : Tag) (transponder : Nat) (r : FeederRevision) (s : State) : State :=
  match slotFor transponder s with
  | none => s
  | some i => reviseIssued p i tag r (reviseSettle i tag r (reviseSpent i tag r (reviseRecord p i tag r s)))

/-- An item of the line intake queue acted on by the pairing and forecast units (R89, R120, R124). -/
def takeIntake (p : Params) (x : IntakeItem) (s : State) : State :=
  match x.body with
  | .passing t c w => takeFeederPassing p x.transponder (recordOf x.tag t c w) s
  | .retime t c => takeFeederRevision p x.tag x.transponder (.retime t c) s
  | .withdraw => takeFeederRevision p x.tag x.transponder .withdraw s

/-! ## Host corrections (R127 to R130) -/

/-- The slot of a passing: the one its log entry names, while that slot still holds the entry's transponder (R127). A slot cleared or
reclaimed since is its slot no more, also where it has been given back to the same transponder: its lap count started again from 0,
and it counts the laps since then alone (R98, R115; DEDUCED, notes/assumptions/43.md). -/
def slotOfPassing (s : State) (e : LogEntry) : Option SlotNo :=
  match e.slot with
  | none => none
  | some i => if !e.released && holdsTransponder e.transponder (slotOf s i) then some i else none

/-- What a WITHDRAW or RETIME finds for number `n` in the log (R127, R152). -/
inductive LogFound where
  | gone | notYet
  | entry (e : LogEntry)
deriving DecidableEq, Repr

/-- `n` has left the ring: it is at most the latest drawn number less 2048 (R152). -/
def isGone (b : LogBlock) (n : Nat) : Bool :=
  match latestDrawn b with
  | none => false
  | some k => decide (n + Config.logPlaces ≤ k)

/-- The log searched for `n` (R127, R152). -/
def findInLog (s : State) (n : Nat) : LogFound :=
  match logEntry s n with
  | some e => .entry e
  | none => if isGone s.log n then .gone else .notYet

/-- The AMEND PASSING record of a correction of a logged passing. -/
def amendPassingRec (s : State) (e : LogEntry) (what : Amendment) : RecordBody :=
  .amend { slot := e.slot, transponder := e.transponder, competitor := ((slotOfPassing s e).map (competitorOf s)).getD 0,
           number := e.number, what := what }

/-- WITHDRAW at its grant (R127, R128). -/
def grantWithdraw (p : Params) (n : Nat) (s : State) : Response × State :=
  match findInLog s n with
  | .gone => (bare .gone, s)
  | .notYet => (bare .notYet, s)
  | .entry e =>
    if e.withdrawn then (bare .refusedState, s)
    else
      let t := withdrawOutside n e.transponder (amendPassingRec s e .withdrawn) s
      (bare .ok,
        match slotOfPassing s e with
        | none => t
        | some i => withdrawInSlot p i n e.lap.isSome t)

/-- A log entry with a new instant and the mark RETIMED (R129). -/
def retimeEntry (t : Time) (e : LogEntry) : LogEntry := { e with instant := t, retimed := true }

/-- The slot's last local passing retimed (R129). -/
def retimeLast (t : Time) (x : Slot) : Slot :=
  { x with last := x.last.map (fun l => { l with instant := t, flags := addFlag l.flags .retimed }) }

/-- The slot's laps after its lap-counted last passing is retimed: the lap is `lap` (R129). -/
def retimedLaps (lap : Int) (x : Slot) : Slot :=
  { x with lastLap := some lap, bestLap := if beatsBest lap x.bestBefore then some lap else x.bestBefore }

/-- The lap of a retimed passing: slot, log entry and AMEND LAP (R129). The lap result of the log entry keeps the lap count that the
passing's own lap was counted with, also where an older lap has been withdrawn since (DESIGN CHOICE, notes/assumptions/44.md). -/
def retimeLap (i : SlotNo) (n : Nat) (t : Time) (e : LogEntry) (s : State) : State :=
  match e.lap, (slotOf s i).previous with
  | some l, some (_, u) =>
    let lap := timeDiff t u
    let best := beatsBest lap (slotOf s i).bestBefore
    let r := setSlot i (retimedLaps lap (slotOf s i)) s
    offerRecord (amendLapRec r i n (addFlagIf best 0 .best)) (writeLap n l.count lap best r)
  | _, _ => s

/-- The pending sector of a retimed passing takes the new instant (R129). -/
def retimePending (i : SlotNo) (n : Nat) (t : Time) (s : State) : State :=
  { s with table := { s.table with pending := s.table.pending.map (fun e =>
    if e.slot = i ∧ e.number = n then { e with instant := t } else e) } }

/-- The settle entry of a retimed passing takes the new instant and is marked local retimed (R129). -/
def retimeSettle (i : SlotNo) (n : Nat) (t : Time) (s : State) : State :=
  { s with table := { s.table with settle := s.table.settle.map (fun e =>
    if e.slot = i ∧ e.number = n then { e with instant := t, retimed := true } else e) } }

/-- The trap wait that holds a retimed passing takes the new instant (R53). -/
def retimeTrap (i : SlotNo) (n : Nat) (t : Time) (s : State) : State :=
  { s with table := { s.table with trap := s.table.trap.map (fun w =>
    if w.slot = i ∧ w.side = .entry ∧ w.number = some n then { w with instant := t } else w) } }

/-- The last issued sector of a retimed passing is recomputed by the change of its instant (R129). -/
def retimeIssued (p : Params) (i : SlotNo) (n : Nat) (former t : Time) (s : State) : State :=
  match (slotOf s i).issued with
  | none => s
  | some x =>
    match x.value with
    | none => s
    | some held =>
      if x.number = n then
        let v : Int := held + timeDiff t former
        if inRange p v then
          amendSector i x (some v.toNat) .revised
            (sectorFlags (isShort p v) (hasFlag x.flags .clockSoft) (hasFlag x.flags .forecast)) s
        else amendSector i x none .revisedOut (unstatedFlags x.number x.flags) s
      else s

/-- The effects of an accepted RETIME (R129). -/
def retimePassing (p : Params) (i : SlotNo) (n : Nat) (t : Time) (e : LogEntry) (s : State) : State :=
  let a := offerRecord (amendPassingRec s e (.retimed t))
    (offerRevision n e.transponder (.retime t) (updateLog n (retimeEntry t) s))
  let b := setSlot i (retimeLast t (slotOf a i)) a
  let c := retimeSettle i n t (retimePending i n t (retimeLap i n t e b))
  retimeTrap i n t (retimeIssued p i n e.instant t c)

/-- The last local passing of a slot is `n` and is not FORECAST (R129). -/
def mayRetime (n : Nat) (x : Slot) : Bool :=
  match x.last with
  | none => false
  | some l => l.number == n && !hasFlag l.flags .forecast

/-- `t` is refused as a new instant: after the station time of the grant, or not after the previous counted passing (R129). -/
def badRetime (now t : Time) (x : Slot) : Bool :=
  isBefore now t ||
  match x.previous with
  | none => false
  | some (_, u) => !isBefore u t

/-- RETIME at its grant (R127, R129). -/
def grantRetime (p : Params) (n : Nat) (t : Time) (s : State) : Response × State :=
  match findInLog s n with
  | .gone => (bare .gone, s)
  | .notYet => (bare .notYet, s)
  | .entry e =>
    match slotOfPassing s e with
    | none => (bare .refusedState, s)
    | some i =>
      if e.withdrawn || !mayRetime n (slotOf s i) then (bare .refusedState, s)
      else if badRetime s.now t (slotOf s i) then (bare .badArgument, s)
      else (bare .ok, retimePassing p i n t e s)

/-- MARK is refused for its time: after the grant, or not after the last local passing of the transponder's slot (R130). -/
def badMark (transponder : Nat) (t : Time) (s : State) : Bool :=
  isBefore s.now t ||
  match slotFor transponder s with
  | none => false
  | some i =>
    match (slotOf s i).last with
    | none => false
    | some l => !isBefore l.instant t

/-- The MANUAL passing of a MARK (R130). -/
def manualPassing (n transponder : Nat) (t : Time) : NewPassing :=
  { kind := .manual, number := n, transponder := transponder, instant := t, flags := flagWord .manual, peak := none,
    peakChannel := none, hitCount := none, span := none }

/-- MARK at its grant (R130, R148). -/
def grantMark (p : Params) (transponder : Nat) (t : Time) (s : State) : Response × State :=
  if badMark transponder t s then (bare .badArgument, s)
  else
    match drawNumber s with
    | (none, u) => (bare .refusedState, u)
    | (some n, u) => (okWith (.passingNumber n), processPassing p (manualPassing n transponder t) u)

/-! ## HALT (R131) -/

/-- Every pending sector ends HALTED, in list order (R131). -/
def haltPending (p : Params) (s : State) : State :=
  let t := s.table.pending.foldl (fun u e => issueSector p (pendingEndRec u e .halted) u) s
  { t with table := { t.table with pending := [] } }

/-- Every settle entry is issued as it stands with UNSETTLED, in list order (R131). -/
def haltSettle (p : Params) (s : State) : State :=
  let t := s.table.settle.foldl (fun u e => issueSector p (earlyRec p u e) u) s
  { t with table := { t.table with settle := [] } }

end Sys2Proof.Machine
end

