-- ==== Sys2Proof/Machine/Session.lean ====
section
/-! DEFINITION. Sessions (chapter 10): the start of CLEARING, the HALT of the host and of station control, and the rows
START_SESSION, HALT, STATION_HALT and CLEARING_END. -/

namespace Sys2Proof.Machine

/-! ## Tests that need no slot (R102) -/

/-- The first case of a command's table that holds, as the response it names (R102). -/
def refusedBy : List (Bool × ResponseCode) → Option Response
  | [] => none
  | (true, c) :: _ => some (bare c)
  | (false, _) :: cs => refusedBy cs

/-- The station is in this state. -/
def inState (s : State) (x : StationState) : Bool := stationState s == x

/-! ## The start of CLEARING (R163) -/

/-- Each slot changed. -/
def mapSlots (f : Slot → Slot) (v : Vector Slot 128) : Vector Slot 128 := ⟨⟨v.toList.map f⟩, by simp⟩

/-- A slot at the grant of START_SESSION: a rostered slot keeps its identity, and any other becomes FREE (R108). -/
def sessionSlot (x : Slot) : Slot :=
  if x.rostered then
    { Slot.empty with state := .rostered, transponder := x.transponder, competitor := x.competitor, rostered := true }
  else Slot.empty

/-- The competitor table and the arbiter at the grant of START_SESSION (R108, R109); WATCH_FULL is kept (R145). -/
def sessionTable (b : TableBlock) : TableBlock :=
  { TableBlock.initial with slots := mapSlots sessionSlot b.slots, watchFull := b.watchFull }

/-- The transponders of the slots that are not FREE, for the admission filter (R21). -/
def rosterIds (v : Vector Slot 128) : List Nat := v.toList.filterMap (fun x => if x.state = .free then none else x.transponder)

/-- The gatherer at the start of CLEARING: table and local queue empty, the filter loaded; CROWDED is kept (R21, R38). -/
def clearedGather (ids : List Nat) (b : GatherBlock) : GatherBlock := { b with entries := [], queue := [], filter := ids }

/-- A notice at the start of CLEARING: a PASSING or REVISE notice leaves, or stays without its follow-on until its attempt ends where
it is in transmission; TIME and STATUS stay (R90). -/
def clearedNotice (n : Notice) : Option Notice :=
  if isTimed n then some n else if n.inTransmission then some { n with followOn := none, leftOver := true } else none

/-- The line at the start of CLEARING (R90). -/
def clearedLine (b : LineBlock) : LineBlock := { b with queue := b.queue.filterMap clearedNotice, intake := [] }

/-- The effects of the grant of START_SESSION (R163). -/
def startClearing (s : State) : State :=
  let slots := sessionTable s.table
  judgeAttn (settleLine
    { s with
      station := { s.station with mode := .clearing, clearingDue := some (later s.now Config.clearingTime) }
      gather := clearedGather (rosterIds slots.slots) s.gather
      line := clearedLine s.line
      table := slots
      log := .initial
      report := { s.report with fifo := [], overrun := none } })

/-- START_SESSION at its grant (R163). -/
def grantStartSession (s : State) : Response × State := (bare .ok, startClearing s)

/-! ## HALT (R164, R165) -/

/-- HALTING ends when the open-pass table holds no CLOSING entry (R159). -/
def finishHalting (s : State) : State :=
  if s.station.mode = .halting ∧ s.gather.entries.all isLive then { s with station := { s.station with mode := .idle } } else s

/-- Every trap wait is removed without a record (R54). -/
def dropTraps (s : State) : State := { s with table := { s.table with trap := [] } }

/-- Every watch is removed with its due item, without a record (R145). -/
def dropWatches (s : State) : State := { s with table := { s.table with watch := [] } }

/-- The line intake queue is emptied (R90). -/
def dropIntake (s : State) : State := { s with line := { s.line with intake := [] } }

/-- HALT is taken: the station becomes HALTING, and no HALT of station control is owed any more (R164, R165). -/
def enterHalting (s : State) : State := { s with station := { s.station with mode := .halting, haltDue := false } }

/-- The effects of a HALT, steps 1 to 5 of R164 in order. -/
def haltSession (p : Params) (s : State) : State :=
  finishHalting (dropIntake (dropWatches (haltSettle p (haltPending p (dropTraps (haltGatherer p (enterHalting s)))))))

/-- A host HALT at its grant: refused where the station has halted meanwhile (R164). -/
def grantHalt (p : Params) (s : State) : Response × State :=
  if isRunning s then (bare .ok, haltSession p s) else (bare .refusedState, s)

/-! ## The rows -/

/-- START_SESSION as the port takes it (R163). -/
def execStartSession (s : State) : Host.Outcome State Fault Refusal :=
  .next
    (takeHeld
      (refusedBy
        [(inState s .unconfigured, .refusedState), (inState s .running, .refusedState), (inState s .clearing, .busy),
          (inState s .halting, .busy)])
      .startSession s)

/-- HALT as the port takes it (R164). -/
def execHalt (s : State) : Host.Outcome State Fault Refusal :=
  .next
    (takeHeld
      (refusedBy
        [(inState s .unconfigured, .refusedState), (inState s .idle, .refusedState), (inState s .halting, .refusedState),
          (inState s .clearing, .busy)])
      .halt s)

/-- CLEARING ends: the station is RUNNING (R159). -/
def enterRunning (s : State) : State := { s with station := { s.station with mode := .running, clearingDue := none } }

/-- CLEARING_END (R159). -/
def execClearingEnd (s : State) : Host.Outcome State Fault Refusal :=
  if inState s .clearing && dueBy s.station.clearingDue s.now then .next (enterRunning s) else .next s

end Sys2Proof.Machine
end

