-- ==== Sys2Proof/Machine/Roster.lean ====
section
/-! DEFINITION. The roster and the reading of slots (6.2, 6.5): ROSTER_PUT, ROSTER_CLEAR, SLOT_READ and SNAPSHOT, as the port takes
them and at their grants. -/

namespace Sys2Proof.Machine

/-! ## At the grant -/

/-- A slot loaded from the roster (R95). -/
def rosteredSlot (transponder competitor : Nat) : Slot :=
  { Slot.empty with state := .rostered, transponder := some transponder, competitor := competitor, rostered := true }

/-- An unrostered ACTIVE slot adopted by ROSTER_PUT (R95). -/
def adoptedSlot (competitor : Nat) (x : Slot) : Slot := { x with rostered := true, competitor := competitor }

/-- ROSTER_PUT at its grant (R95). -/
def grantRosterPut (transponder competitor : Nat) (s : State) : Response × State :=
  match slotFor transponder s with
  | some i =>
    if (slotOf s i).rostered then (bare .duplicate, s)
    else (okWith (.slotNumber i), setSlot i (adoptedSlot competitor (slotOf s i)) s)
  | none =>
    match findSlot (fun x => x.state == .free) s with
    | some i => (okWith (.slotNumber i), setSlot i (rosteredSlot transponder competitor) s)
    | none => (bare .full, s)

/-- How many slots are in a state. -/
def countState (x : SlotState) (s : State) : Nat := s.table.slots.toList.countP (fun y => y.state == x)

/-- The slots freed by ROSTER_CLEAR (R96). -/
def usedSlots (s : State) : Nat := s.table.slots.toList.countP (fun y => y.state != .free)

/-- The table with every slot FREE, and without the entries the slots linked to (R96). -/
def freedTable (b : TableBlock) : TableBlock :=
  { b with slots := Vector.replicate 128 .empty, pending := [], settle := [], watch := [], trap := [] }

/-- Every slot is FREE, and the entries the slots linked to are removed without records (R96); the logged passings have their slots no
more (R127). -/
def clearRoster (s : State) : State := { releaseSlots (fun _ => true) s with table := freedTable s.table }

/-- ROSTER_CLEAR at its grant (R96). -/
def grantRosterClear (s : State) : Response × State := (okWith (.freed (usedSlots s)), clearRoster s)

/-- SLOT_READ at its grant (R106). -/
def grantSlotRead (i : SlotNo) (s : State) : Response × State := (okWith (.slot s.now (slotView s i)), s)

/-- The slots that SNAPSHOT names, in slot order (R107). -/
def snapshotSlots (first count : Nat) : List SlotNo := ((List.finRange 128).drop first).take count

/-- SNAPSHOT at its grant (R107). -/
def grantSnapshot (first count : Nat) (s : State) : Response × State :=
  (okWith (.snapshot s.now ((snapshotSlots first count).map (slotView s))), s)

/-! ## As the port takes them -/

/-- ROSTER_PUT's arguments are refused (R95). -/
def badRoster (transponder competitor : Nat) : Bool := !transponderValid transponder || decide (9999 < competitor)

/-- ROSTER_PUT (R95). -/
def execRosterPut (transponder competitor : Nat) (s : State) : Host.Outcome State Fault Refusal :=
  .next
    (takeHeld
      (refusedBy
        [(inState s .unconfigured, .refusedState), (inState s .clearing, .busy), (inState s .running, .refusedState),
          (badRoster transponder competitor, .badArgument)])
      (.rosterPut transponder competitor) s)

/-- ROSTER_CLEAR (R96). -/
def execRosterClear (s : State) : Host.Outcome State Fault Refusal :=
  .next
    (takeHeld
      (refusedBy [(inState s .unconfigured, .refusedState), (inState s .clearing, .busy), (inState s .running, .refusedState)])
      .rosterClear s)

/-- SLOT_READ (R106). -/
def execSlotRead (slot : Nat) (s : State) : Host.Outcome State Fault Refusal :=
  .next
    (takeHeld
      (refusedBy [(inState s .unconfigured, .refusedState), (inState s .clearing, .busy), (decide (127 < slot), .badArgument)])
      (.slotRead (Fin.ofNat 128 slot)) s)

/-- SNAPSHOT's arguments are refused (R107). -/
def badSnapshot (first count : Nat) : Bool :=
  decide (127 < first) || decide (count < 1) || decide (16 < count) || decide (128 < first + count)

/-- SNAPSHOT (R107). -/
def execSnapshot (first count : Nat) (s : State) : Host.Outcome State Fault Refusal :=
  .next
    (takeHeld
      (refusedBy
        [(inState s .unconfigured, .refusedState), (inState s .clearing, .busy), (badSnapshot first count, .badArgument)])
      (.snapshot first count) s)

end Sys2Proof.Machine
end

