-- ==== Sys2Proof/Machine/Arbiter.lean ====
section
/-! DEFINITION. The table arbiter (6.4): waiting requesters, the choice, the bypass counts, and the work of the four grants and of
the HALT of station control. -/

namespace Sys2Proof.Machine

/-! ## Waiting requesters and the choice (R100 to R105) -/

/-- The PORT request that is held, with its arrival time (R102). -/
def portRequest (s : State) : Option (PortCommand × Time) :=
  match s.report.port with
  | .working (.request cmd arrival) => some (cmd, arrival)
  | _ => none

/-- The requester is waiting (R100). -/
def waits (s : State) : Requester → Bool
  | .loc => !s.gather.queue.isEmpty
  | .line => !s.line.intake.isEmpty
  | .timer => !(dueItems s).isEmpty
  | .port => (portRequest s).isSome

/-- The order of an arbiter mode (R103). -/
def modeOrder : ArbiterMode → List Requester
  | .localFirst => [.loc, .line, .timer, .port]
  | .lineFirst => [.line, .loc, .timer, .port]

/-- The bypass count of a requester (R104). -/
def bypassOf (b : PerRequester) : Requester → Nat
  | .loc => b.loc
  | .line => b.line
  | .timer => b.timer
  | .port => b.port

/-- The PORT request is promoted (R105). -/
def promoted (p : Params) (s : State) : Bool :=
  match portRequest s with
  | none => false
  | some (_, arrival) => decide ((p.portPromotion * 1000 : Nat) < timeDiff s.now arrival)

/-- The requester is overdue (R103, R104). -/
def overdue (p : Params) (s : State) (r : Requester) : Bool := decide (p.bypassLimit < bypassOf s.table.bypass r)

/-- The requesters that wait, in the order of the arbiter mode (R103). -/
def waitingInOrder (p : Params) (s : State) : List Requester := (modeOrder p.arbiterMode).filter (waits s)

/-- The requester that the arbiter chooses (R103). -/
def choice (p : Params) (s : State) : Option Requester :=
  if promoted p s then some .port
  else
    match (waitingInOrder p s).find? (overdue p s) with
    | some r => some r
    | none => (waitingInOrder p s).head?

/-! ## Bypass counts (R104) -/

/-- The count of a requester at a grant to `granted`: 0 for it and for one that does not wait. -/
def passedOver (s : State) (granted r : Requester) : Nat :=
  if r = granted then 0 else if waits s r then min 15 (bypassOf s.table.bypass r + 1) else 0

/-- The counts at a grant, judged on the requesters that wait as it is made (R104). -/
def beginGrant (granted : Requester) (s : State) : State :=
  { s with table :=
    { s.table with bypass := ⟨passedOver s granted .loc, passedOver s granted .line, passedOver s granted .timer,
                              passedOver s granted .port⟩ } }

/-- The count of a requester that waits; 0 for one that does not (R104). -/
def countIfWaiting (s : State) (r : Requester) : Nat := if waits s r then bypassOf s.table.bypass r else 0

/-- A requester that has stopped waiting has a count of 0 (R104). -/
def settleCounts (s : State) : State :=
  { s with table :=
    { s.table with
      bypass := ⟨countIfWaiting s .loc, countIfWaiting s .line, countIfWaiting s .timer, countIfWaiting s .port⟩ } }

/-- The grant that was made in `s` ends in `t`: a requester that has stopped waiting has a count of 0 (R104), but a HALT keeps every
count as its grant left it, those of LINE and TIMER too, whose queues it empties (R108; DESIGN CHOICE, notes/assumptions/37.md). -/
def endGrant (s t : State) : State := if isRunning s && !isRunning t then t else settleCounts t

/-- A grant to `r` with its work: made when `r` is the arbiter's choice and station control owes no HALT (R100, R103, R165). -/
def grantTo (r : Requester) (work : Params → State → State) (s : State) : State :=
  match s.station.conf with
  | none => s
  | some p => if s.station.haltDue = false ∧ choice p s = some r then endGrant s (work p (beginGrant r s)) else s

/-! ## The work of the grants -/

/-- The passing of an item of the local passing queue (R33, R113). -/
def loopPassing (x : LocalItem) (number : Nat) : NewPassing :=
  { kind := .loop, number := number, transponder := x.transponder, instant := x.instant, flags := x.flags, peak := some x.peak,
    peakChannel := some x.peakChannel, hitCount := some x.hitCount, span := none }

/-- An item of the local passing queue acted on: a passing is processed, a trap mark goes to the trap logic (R100). -/
def takeLocal (p : Params) (x : LocalItem) (s : State) : State :=
  match x.number with
  | some n => processPassing p (loopPassing x n) s
  | none => takeMark p x s

/-- The head item leaves the local passing queue, and the freed place is given to the oldest waiting closing (R34, R100, R159). -/
def popLocal (p : Params) (s : State) : State :=
  finishHalting (acceptClosing p { s with gather := { s.gather with queue := s.gather.queue.tail } })

/-- The work of a LOCAL grant (R100). -/
def localWork (p : Params) (s : State) : State :=
  match s.gather.queue with
  | [] => s
  | x :: _ => takeLocal p x (popLocal p s)

/-- The work of a LINE grant (R100). -/
def lineWork (p : Params) (s : State) : State :=
  match s.line.intake with
  | [] => s
  | x :: xs => takeIntake p x { s with line := { s.line with intake := xs } }

/-- The expiry of a due item is taken by the unit that owns it (R101). -/
def takeDue (p : Params) (x : DueItem) (s : State) : State :=
  match x.kind with
  | .pending => expirePending p x.slot s
  | .settle => expireSettle p x.slot s
  | .watch => expireWatch p x.slot s
  | .trap => expireTrap x.slot s

/-- The work of a TIMER grant (R101). -/
def timerWork (p : Params) (s : State) : State :=
  match oldestDue (dueItems s) with
  | none => s
  | some x => takeDue p x s

/-- A PORT request carried out (R102). -/
def carryOut (p : Params) (cmd : PortCommand) (s : State) : Response × State :=
  match cmd with
  | .slotRead i => grantSlotRead i s
  | .snapshot first count => grantSnapshot first count s
  | .rosterPut t c => grantRosterPut t c s
  | .rosterClear => grantRosterClear s
  | .withdraw n => grantWithdraw p n s
  | .retime n t => grantRetime p n t s
  | .mark t u => grantMark p t u s
  | .startSession => grantStartSession s
  | .halt => grantHalt p s

/-- The work of a PORT grant: the command is carried out and its response made ready (R102, R156). -/
def portWork (p : Params) (s : State) : State :=
  match portRequest s with
  | none => s
  | some (cmd, _) => setPort (.done (.kept (carryOut p cmd s).1)) (carryOut p cmd s).2

/-! ## The rows -/

/-- LOCAL_GRANT (R100). -/
def execLocalGrant (s : State) : Host.Outcome State Fault Refusal := .next (grantTo .loc localWork s)

/-- LINE_GRANT (R100). -/
def execLineGrant (s : State) : Host.Outcome State Fault Refusal := .next (grantTo .line lineWork s)

/-- TIMER_GRANT (R101). -/
def execTimerGrant (s : State) : Host.Outcome State Fault Refusal := .next (grantTo .timer timerWork s)

/-- PORT_GRANT (R102). -/
def execPortGrant (s : State) : Host.Outcome State Fault Refusal := .next (grantTo .port portWork s)

/-- STATION_HALT (R165): the HALT that station control owes, outside the requesters; no bypass count changes at it. -/
def execStationHalt (s : State) : Host.Outcome State Fault Refusal :=
  match s.station.conf with
  | none => .next s
  | some p => if s.station.haltDue then .next (haltSession p s) else .next s

end Sys2Proof.Machine
end

