-- ==== Sys2Proof/Machine/Port.lean ====
section
/-! DEFINITION. The report port (9.3 to 9.6, 11.3): corrections as the port takes them, REPORT_READ with its read timer, polls,
delivery and deselection, LOG_READ, OVERRUN_CLEAR, and the attention age. -/

namespace Sys2Proof.Machine

/-! ## Host corrections as the port takes them (R127) -/

/-- WITHDRAW (R127). -/
def execWithdraw (number : Nat) (s : State) : Host.Outcome State Fault Refusal :=
  .next
    (takeHeld
      (refusedBy [(inState s .unconfigured, .refusedState), (inState s .clearing, .busy), (!numberValid number, .badArgument)])
      (.withdraw number) s)

/-- RETIME (R127). -/
def execRetime (number time : Nat) (s : State) : Host.Outcome State Fault Refusal :=
  .next
    (takeHeld
      (refusedBy
        [(inState s .unconfigured, .refusedState), (inState s .clearing, .busy),
          (!numberValid number || !timeValid time, .badArgument)])
      (.retime number (BitVec.ofNat 48 time)) s)

/-- MARK (R127); HALTING is taken as IDLE (R159). -/
def execMark (transponder time : Nat) (s : State) : Host.Outcome State Fault Refusal :=
  .next
    (takeHeld
      (refusedBy
        [(inState s .unconfigured, .refusedState), (inState s .clearing, .busy),
          (inState s .idle || inState s .halting, .refusedState),
          (!transponderValid transponder || !timeValid time, .badArgument)])
      (.mark transponder (BitVec.ofNat 48 time)) s)

/-! ## REPORT_READ (R157) -/

/-- The response that gives the first `k` records of the FIFO, with how many are left and the overrun lock (R157). -/
def recordsResponse (code : ResponseCode) (k : Nat) (s : State) : Response :=
  { code := code, body := .records (s.report.fifo.length - k) s.report.overrun.isSome (s.report.fifo.take k) }

/-- How many records a read of `count` takes (R157). -/
def takenBy (count : Nat) (s : State) : Nat := min count s.report.fifo.length

/-- The read mode in force is WAIT; in UNCONFIGURED none is held, and a read does not wait (R157). -/
def readTimeoutIfWaiting (s : State) : Option Nat :=
  match s.station.conf with
  | none => none
  | some p =>
    match p.readMode with
    | .wait => some p.readTimeout
    | .immediate => none

/-- A REPORT_READ that READY takes with a valid count (R157). -/
def readRecords (count : Nat) (s : State) : State :=
  if s.report.fifo.isEmpty then
    match readTimeoutIfWaiting s with
    | none => respond (recordsResponse .empty 0 s) s
    | some ms => respond (bare .notReady) (setPort (.working (.report count (later s.now (ms * 1000)))) s)
  else answer (recordsResponse .ok (takenBy count s) s) false (takenBy count s) s

/-- A count of 1..8 (R157). -/
def readCountValid (count : Nat) : Bool := decide (1 ≤ count) && decide (count ≤ 8)

/-- REPORT_READ (R156, R157), in every station state: R102 names the commands that are BUSY in CLEARING, and REPORT_READ is not among
them, so in CLEARING it is served or held as in IDLE (DESIGN CHOICE, notes/assumptions/41.md). -/
def execReportRead (count : Nat) (s : State) : Host.Outcome State Fault Refusal :=
  match s.report.port with
  | .ready => if readCountValid count then .next (readRecords count s) else .next (respond (bare .badArgument) s)
  | _ => .next (respond (bare .busy) s)

/-- READ_TIMER_EXPIRY (R157): the held REPORT_READ ends with the response EMPTY. -/
def execReadTimerExpiry (s : State) : Host.Outcome State Fault Refusal :=
  match s.report.port with
  | .working (.report _ due) =>
    if reached due s.now then .next (setPort (.done (.kept (recordsResponse .empty 0 s))) s) else .next s
  | _ => .next s

/-! ## Polls, delivery, deselection (R156, R171) -/

/-- POLL (R156, R157). -/
def execPoll (s : State) : Host.Outcome State Fault Refusal :=
  match s.report.port with
  | .ready => .next (respond (bare .refusedState) s)
  | .working _ => .next (respond (bare .notReady) s)
  | .done (.kept r) => .next (answer r true 0 s)
  | .done (.atPoll count) => .next (answer (recordsResponse .ok (takenBy count s) s) true (takenBy count s) s)

/-- The response of transaction `t` is delivered: its code byte has been shifted out and the bytes behind it are still to be, its
records leave the FIFO, and a made response is collected (R156, R171). -/
def deliver (t : Transaction) (s : State) : State :=
  judgeAttn
    { s with report :=
      { s.report with
        fifo := s.report.fifo.drop t.takes
        port := if t.collects then .ready else s.report.port
        transaction := some { t with frame := t.frame.tail, delivered := true } } }

/-- RESPONSE_DELIVERED (R171): the code byte of the response has been clocked out. -/
def execResponseDelivered (s : State) : Host.Outcome State Fault Refusal :=
  match s.report.transaction with
  | none => .next s
  | some t => if t.delivered then .next s else .next (deliver t s)

/-- The byte that the port sends where it has none of a response to send (R171). -/
def filler : Byte := 0xFF

/-- What the port sends while a request of `n` bytes is clocked in (R171). -/
def sentDuringRequest (n : Nat) : List Byte := List.replicate n filler

/-- The bytes of the response that are still to be shifted out; none outside a transaction (R171). -/
def unsentBytes (s : State) : List Byte := (s.report.transaction.map (·.frame)).getD []

/-- What the port sends on the next `n` bytes clocked after a request: the bytes of the response, and the filler after it has been
sent in full (R171). -/
def sentAfterRequest (s : State) (n : Nat) : List Byte := (unsentBytes s ++ List.replicate n filler).take n

/-- DESELECT (R171): a response that was not delivered is lost, with every byte that has not been clocked out, and nothing else
changes. -/
def execDeselect (s : State) : Host.Outcome State Fault Refusal :=
  .next { s with report := { s.report with transaction := none } }

/-- UNKNOWN_COMMAND (R171): a code of 21 or above, or a code with another argument length than its own; a code with its own length is
another row's. -/
def execUnknownCommand (code length : Nat) (s : State) : Host.Outcome State Fault Refusal :=
  if argLength code = some length then .next s else .next (respond (bare .unknownCommand) s)

/-! ## The log, the overrun capture and ATTN -/

/-- LOG_READ's arguments are refused (R152). -/
def badLogRead (first count : Nat) : Bool :=
  !numberValid first || decide (count < 1) || decide (32 < count) || decide (Config.lastNumber < first + count - 1)

/-- The item of number `n` (R152). -/
def logItemOf (s : State) (n : Nat) : LogItem :=
  match findInLog s n with
  | .entry e => .present e
  | .gone => .gone n
  | .notYet => .notYet n

/-- The answer to LOG_READ (R152). -/
def logAnswer (first count : Nat) (s : State) : Response :=
  if badLogRead first count then bare .badArgument
  else okWith (.log s.now (latestDrawn s.log) ((List.range count).map (fun k => logItemOf s (first + k))))

/-- LOG_READ (R152). -/
def execLogRead (first count : Nat) (s : State) : Host.Outcome State Fault Refusal := .next (respond (logAnswer first count s) s)

/-- OVERRUN_CLEAR (R154): answered with the capture as it stood, which is then unlocked. -/
def execOverrunClear (s : State) : Host.Outcome State Fault Refusal :=
  .next (respond (okWith (.overrun s.report.overrun)) (judgeAttn { s with report := { s.report with overrun := none } }))

/-- ATTENTION_AGE_EXPIRY (R155): ATTN is judged as the head record reaches the attention age. -/
def execAttentionAgeExpiry (s : State) : Host.Outcome State Fault Refusal := .next (judgeAttn s)

end Sys2Proof.Machine
end

