-- ==== Sys2Proof/Machine/Station.lean ====
section
/-! DEFINITION. Station control (10.2, 10.3, 10.6, 10.7): CONFIGURE and CONFIG_READ, RESTART and power-on reset, STATUS_READ, and
the reading and clearing of the fault capture. -/

namespace Sys2Proof.Machine

/-! ## CONFIGURE and CONFIG_READ (R160, R161) -/

/-- The guard of a channel as the configuration is taken: sampled where the arrangement names the channel (R17). -/
def configuredGuard (p : Params) (levels : PerChannel Nat) (s : State) (ch : Channel) : Guard :=
  if (channelsOf p.arrangement).contains ch then sampledGuard (ofChannel p.channels ch) s.now (ofChannel levels ch) else guardOf s ch

/-- The configuration is taken: the effective values, CLAMPED where a value was clamped, IDLE, and the guards sampled (R17, R160). -/
def takeConfig (asked : Params) (levels : PerChannel Nat) (s : State) : State :=
  let p := clampParams asked
  { s with
    station := { s.station with conf := some p, mode := .idle, clamped := s.station.clamped || p != asked }
    channels := { s.channels with guards :=
      ⟨configuredGuard p levels s .a, configuredGuard p levels s .b, configuredGuard p levels s .c⟩ } }

/-- The first TIME and STATUS notices are offered and their schedules start (R58, R69, R160). -/
def startSchedules (p : Params) (s : State) : State := offerStatus p (scheduleStatus (offerTime s))

/-- CONFIGURE (R160). -/
def execConfigure (args : ConfigArgs) (levels : PerChannel Nat) (s : State) : Host.Outcome State Fault Refusal :=
  match s.station.conf, readParams args with
  | some _, _ => .next (respond (bare .refusedState) s)
  | none, none => .next (respond (bare .badArgument) s)
  | none, some asked =>
    .next (respond (bare .ok) (judgeAttn (startSchedules (clampParams asked) (takeConfig asked levels s))))

/-- The answer to CONFIG_READ (R161). -/
def configAnswer (s : State) : Response :=
  match s.station.conf with
  | none => bare .refusedState
  | some p => okWith (.config p s.station.clamped)

/-- CONFIG_READ (R161). -/
def execConfigRead (s : State) : Host.Outcome State Fault Refusal := .next (respond (configAnswer s) s)

/-! ## RESTART and power-on reset (R162) -/

/-- The end of the latest own attempt after a RESTART, which cuts one off (R90). -/
def cutOffAt (s : State) : Option Time :=
  match s.line.attemptFrom, s.line.attemptEnd with
  | some _, none => some s.now
  | _, e => e

/-- The line after RESTART: its reset values, with carrier watching afresh from now (R90; notes/assumptions/31.md). -/
def restartedLine (s : State) : LineBlock :=
  { LineBlock.initial with
    carrierSince := s.line.carrierSince.map (fun _ => s.now), attemptFrom := s.line.attemptFrom, attemptEnd := cutOffAt s }

/-- Every block at its RESTART values; station time keeps counting (R162). -/
def restarted (s : State) : State :=
  { State.reset with
    pending := s.pending, now := s.now, channels := { ChannelBlock.initial with resetAt := s.now.toNat }, line := restartedLine s }

/-- RESTART (R162). -/
def execRestart (s : State) : Host.Outcome State Fault Refusal := .next (respond (bare .ok) (restarted s))

/-- Every block at its power-on values; the carrier indication is an input and stays as it is (R162; notes/assumptions/6.md). -/
def poweredOn (s : State) : State :=
  { State.reset with
    pending := s.pending, line := { LineBlock.initial with carrierSince := s.line.carrierSince.map (fun _ => (0 : Time)) } }

/-- POWER_ON_RESET (R162). -/
def execPowerOnReset (s : State) : Host.Outcome State Fault Refusal := .next (poweredOn s)

/-! ## STATUS_READ (R166) -/

/-- A channel as STATUS_READ shows it. -/
def channelView (s : State) (ch : Channel) : ChannelView :=
  { isOn := channelOn s ch, guard := (guardOf s ch).state, high := (guardOf s ch).high }

/-- How many entries of the open-pass table are in a state (R40). -/
def countEntries (x : PassState) (s : State) : Nat := s.gather.entries.countP (fun e => e.state == x)

/-- How many notices of a kind the transmit queue holds, by the kind byte of its frame (R91, 11.1). -/
def countNotices (kind : Nat) (s : State) : Nat := s.line.queue.countP (fun n => noticeKindCode n.body == kind)

/-- The values STATUS_READ returns (R40, R91, R109, R146, R166). -/
def statusView (s : State) : StatusView :=
  { state := stationState s, time := s.now, channels := ⟨channelView s .a, channelView s .b, channelView s .c⟩,
    nOpen := countEntries .opened s, nParked := countEntries .parked s, nClosing := countEntries .closing s,
    nLocal := s.gather.queue.length, line := s.line.state,
    nPassing := countNotices 2 s, nRevise := countNotices 3 s, nTime := countNotices 1 s, nStatus := countNotices 4 s,
    head := (headNotice s.line.queue).map (fun n => (headKindCode n.body, n.collisions)),
    nUnsent := unsentCount s, nIntake := s.line.intake.length,
    nFree := countState .free s, nRosteredState := countState .rostered s, nActive := countState .active s,
    nRosteredFlag := s.table.slots.toList.countP (·.rostered),
    localWaiting := waits s .loc, lineWaiting := waits s .line, timerWaiting := waits s .timer, portWaiting := waits s .port,
    bypass := s.table.bypass, reclaimed := s.table.reclaimed, untracked := s.table.untracked, dropped := s.table.dropped,
    arbiterMode := s.station.conf.map (·.arbiterMode), nWatches := s.table.watch.length, nRecords := s.report.fifo.length,
    overrunLocked := s.report.overrun.isSome, faultLocked := s.station.fault.isSome, latest := latestDrawn s.log,
    crowded := s.gather.crowded, lineOverrun := s.line.overrun, watchFull := s.table.watchFull, clamped := s.station.clamped }

/-- The sticky flags CROWDED, LINE_OVERRUN, WATCH_FULL and CLAMPED are cleared (R166). -/
def clearSticky (s : State) : State :=
  { s with
    station := { s.station with clamped := false }
    gather := { s.gather with crowded := false }
    line := { s.line with overrun := false }
    table := { s.table with watchFull := false } }

/-- STATUS_READ (R166). -/
def execStatusRead (s : State) : Host.Outcome State Fault Refusal :=
  .next (respond (okWith (.status (statusView s))) (clearSticky s))

/-! ## The fault capture (R168) -/

/-- FAULT_READ (R168). -/
def execFaultRead (s : State) : Host.Outcome State Fault Refusal := .next (respond (okWith (.fault s.station.fault)) s)

/-- FAULT_CLEAR (R168): answered with the capture as it stood, which is then unlocked. -/
def execFaultClear (s : State) : Host.Outcome State Fault Refusal :=
  .next (respond (okWith (.fault s.station.fault)) (judgeAttn { s with station := { s.station with fault := none } }))

end Sys2Proof.Machine
end

