-- ==== Sys2Proof/Machine/Dispatch.lean ====
section
/-! DEFINITION. The meaning of a command: one arm for each row of the table, each one call of its meaning. -/

namespace Sys2Proof.Machine

def exec (i : Instr) (s : State) : Host.Outcome State Fault Refusal :=
  match i with
  | .powerOnReset => Sys2Proof.Machine.execPowerOnReset s
  | .burstEnd ch burst => Sys2Proof.Machine.execBurstEnd ch burst s
  | .hitDelivery ch receiving => Sys2Proof.Machine.execHitDelivery ch receiving s
  | .risingCrossing ch => Sys2Proof.Machine.execRisingCrossing ch s
  | .fallingCrossing ch => Sys2Proof.Machine.execFallingCrossing ch s
  | .filterExpiry ch => Sys2Proof.Machine.execFilterExpiry ch s
  | .quietExpiry ch => Sys2Proof.Machine.execQuietExpiry ch s
  | .guardRearm channelCode => Sys2Proof.Machine.execGuardRearm channelCode s
  | .silenceExpiry key => Sys2Proof.Machine.execSilenceExpiry key s
  | .dwellExpiry key => Sys2Proof.Machine.execDwellExpiry key s
  | .staleExpiry station => Sys2Proof.Machine.execStaleExpiry station s
  | .clockWrap => Sys2Proof.Machine.execClockWrap s
  | .timeIntervalExpiry => Sys2Proof.Machine.execTimeIntervalExpiry s
  | .statusIntervalExpiry => Sys2Proof.Machine.execStatusIntervalExpiry s
  | .statusPromotion => Sys2Proof.Machine.execStatusPromotion s
  | .carrierRise => Sys2Proof.Machine.execCarrierRise s
  | .carrierDrop => Sys2Proof.Machine.execCarrierDrop s
  | .attemptStart => Sys2Proof.Machine.execAttemptStart s
  | .attemptComplete => Sys2Proof.Machine.execAttemptComplete s
  | .collision draw => Sys2Proof.Machine.execCollision draw s
  | .backoffEnd => Sys2Proof.Machine.execBackoffEnd s
  | .congestionEnd => Sys2Proof.Machine.execCongestionEnd s
  | .lineJammed => Sys2Proof.Machine.execLineJammed s
  | .frameReceived signal receiveTime => Sys2Proof.Machine.execFrameReceived signal receiveTime s
  | .pairWaitDue slot => Sys2Proof.Machine.execPairWaitDue slot s
  | .settleDue slot => Sys2Proof.Machine.execSettleDue slot s
  | .watchDue slot => Sys2Proof.Machine.execWatchDue slot s
  | .trapWaitDue slot => Sys2Proof.Machine.execTrapWaitDue slot s
  | .localGrant => Sys2Proof.Machine.execLocalGrant s
  | .lineGrant => Sys2Proof.Machine.execLineGrant s
  | .timerGrant => Sys2Proof.Machine.execTimerGrant s
  | .portGrant => Sys2Proof.Machine.execPortGrant s
  | .configure args levels => Sys2Proof.Machine.execConfigure args levels s
  | .configRead => Sys2Proof.Machine.execConfigRead s
  | .restart => Sys2Proof.Machine.execRestart s
  | .startSession => Sys2Proof.Machine.execStartSession s
  | .clearingEnd => Sys2Proof.Machine.execClearingEnd s
  | .halt => Sys2Proof.Machine.execHalt s
  | .stationHalt => Sys2Proof.Machine.execStationHalt s
  | .rosterPut transponder competitor => Sys2Proof.Machine.execRosterPut transponder competitor s
  | .rosterClear => Sys2Proof.Machine.execRosterClear s
  | .slotRead slot => Sys2Proof.Machine.execSlotRead slot s
  | .snapshot first count => Sys2Proof.Machine.execSnapshot first count s
  | .withdraw number => Sys2Proof.Machine.execWithdraw number s
  | .retime number time => Sys2Proof.Machine.execRetime number time s
  | .mark transponder time => Sys2Proof.Machine.execMark transponder time s
  | .reportRead count => Sys2Proof.Machine.execReportRead count s
  | .readTimerExpiry => Sys2Proof.Machine.execReadTimerExpiry s
  | .attentionAgeExpiry => Sys2Proof.Machine.execAttentionAgeExpiry s
  | .poll => Sys2Proof.Machine.execPoll s
  | .unknownCommand code length => Sys2Proof.Machine.execUnknownCommand code length s
  | .deselect => Sys2Proof.Machine.execDeselect s
  | .logRead first count => Sys2Proof.Machine.execLogRead first count s
  | .peerRead station => Sys2Proof.Machine.execPeerRead station s
  | .statusRead => Sys2Proof.Machine.execStatusRead s
  | .faultRead => Sys2Proof.Machine.execFaultRead s
  | .faultClear => Sys2Proof.Machine.execFaultClear s
  | .overrunClear => Sys2Proof.Machine.execOverrunClear s
  | .responseDelivered => Sys2Proof.Machine.execResponseDelivered s

end Sys2Proof.Machine
end

