-- ==== Sys2Proof/Safety.lean ====
section
/-! DEFINITION. What a sound state of the station is: the invariants that the obligations state of every step, and the relations that
they use. -/

namespace Sys2Proof.Machine

/-! ## Capacities -/

/-- An entry of the open-pass table keeps to its 32 stored hits, and its hit count saturates (R19, R24). -/
structure EntryBounded (e : Entry) : Prop where
  stored : e.stored.length ≤ Config.storedHits
  hitCount : e.hitCount ≤ Config.countLimit

/-- The queues, tables, lists and counts stand within their capacities (R19 to R21, R24, R33, R48, R76, R77, R79, R80, R89, R93, R104,
R109, R111, R112, R135, R153). Each timed list holds at most one entry for a slot, and so at most 128. -/
structure WithinCapacities (s : State) : Prop where
  entries : s.gather.entries.length ≤ Config.passPlaces
  passes : ∀ e ∈ s.gather.entries, EntryBounded e
  localQueue : s.gather.queue.length ≤ Config.localPlaces
  localHits : ∀ x ∈ s.gather.queue, x.hitCount ≤ Config.countLimit
  filter : s.gather.filter.length ≤ 128
  transmitQueue : s.line.queue.length ≤ Config.transmitPlaces
  timedNotices : s.line.queue.countP isTimed ≤ Config.timedPlaces
  collisions : ∀ n ∈ s.line.queue, n.collisions < Config.lastCollision
  intake : s.line.intake.length ≤ Config.intakePlaces
  pendingOnce : (s.table.pending.map (·.slot)).Nodup
  settleOnce : (s.table.settle.map (·.slot)).Nodup
  watchOnce : (s.table.watch.map (·.slot)).Nodup
  trapOnce : (s.table.trap.map (·.slot)).Nodup
  settle : s.table.settle.length ≤ Config.settlePlaces
  watch : s.table.watch.length ≤ Config.watchPlaces
  fifo : s.report.fifo.length ≤ Config.fifoPlaces
  bypass : ∀ r, bypassOf s.table.bypass r ≤ 15
  laps : ∀ i, (slotOf s i).lapCount ≤ Config.countLimit
  reclaimed : s.table.reclaimed ≤ Config.countLimit
  untracked : s.table.untracked ≤ Config.countLimit
  dropped : s.table.dropped ≤ Config.countLimit

/-! ## Guards -/

/-- A guard's timers and trip time stand as its state has them: the filter timer runs in WATCHING alone, the quiet timer in QUIETING
alone, and the trip time is present in TRIPPED and QUIETING alone (R8 to R12). -/
structure GuardSound (g : Guard) : Prop where
  filter : g.filterDue.isSome = (g.state == .watching)
  quiet : g.quietDue.isSome = (g.state == .quieting)
  trip : g.tripTime.isSome = (g.state == .tripped || g.state == .quieting)

/-- Every guard is sound, and the guard of a channel that is off is inactive (R2). -/
structure GuardsSound (s : State) : Prop where
  sound : ∀ ch, GuardSound (guardOf s ch)
  off : ∀ ch, channelOn s ch = false → guardOf s ch = Guard.initial

/-! ## Peer records -/

/-- A peer record stands as its clock state has it (R59, R61 to R64). -/
structure PeerSound (r : PeerRecord) : Prop where
  offset : r.offset.isSome = (r.clock != .unheard)
  stale : r.staleDue.isSome = canGoStale r.clock
  unheard : r.clock = .unheard → r.count = 0
  acquiring : r.clock = .acquiring → 1 ≤ r.count ∧ r.count ≤ 3
  locked : r.clock = .locked → 4 ≤ r.count
  count : r.count ≤ Config.countLimit
  rejections : r.rejections ≤ 2
  noRejections : r.clock ≠ .locked → r.rejections = 0

/-- Every peer record is sound. -/
def PeersSound (s : State) : Prop := ∀ k, PeerSound (peerOf s k)

/-! ## The passing log -/

/-- A place of the ring is within the last 2048 numbers drawn, and its entry is the entry of its number (R149). -/
structure PlaceSound (b : LogBlock) (q : LogPlace) : Prop where
  drawn : ∃ k, latestDrawn b = some k ∧ 1 ≤ q.number ∧ q.number ≤ k ∧ k < q.number + Config.logPlaces
  own : ∀ e, q.entry = some e → e.number = q.number

/-- The log is sound: its counter is EXHAUSTED or in range, its places hold drawn numbers, rising (R147, R149). -/
structure LogSound (s : State) : Prop where
  counter : ∀ n, s.log.counter = some n → 1 ≤ n ∧ n ≤ Config.lastNumber
  places : ∀ q ∈ s.log.places, PlaceSound s.log q
  rising : s.log.places.Pairwise (fun a b => a.number < b.number)

/-! ## The competitor table -/

/-- A slot's identity stands as its state has it, and a FREE slot holds nothing (R92, R93). -/
structure SlotSound (x : Slot) : Prop where
  free : x.state = .free → x = Slot.empty
  rostered : x.state = .rostered → x.rostered = true
  held : x.state ≠ .free → x.transponder.isSome = true

/-- The competitor table is sound: its slots are, no transponder is held by two slots that are not FREE, and the entries of the four
timed lists name slots that are not FREE (R92, R93). -/
structure TableSound (s : State) : Prop where
  slots : ∀ i, SlotSound (slotOf s i)
  unique : ∀ i j t, holdsTransponder t (slotOf s i) = true → holdsTransponder t (slotOf s j) = true → i = j
  pending : ∀ e ∈ s.table.pending, (slotOf s e.slot).state ≠ .free
  settle : ∀ e ∈ s.table.settle, (slotOf s e.slot).state ≠ .free
  watch : ∀ e ∈ s.table.watch, (slotOf s e.slot).state ≠ .free
  trap : ∀ e ∈ s.table.trap, (slotOf s e.slot).state ≠ .free

/-! ## The line controller -/

/-- The transmit queue stands in the order of its classes, and the line state agrees with it: LISTENING with an empty queue, DEFERRING
with a notice, and one notice in transmission in SENDING alone (5.3, R79). -/
structure LineSound (s : State) : Prop where
  ordered : s.line.queue.Pairwise (fun a b => classRank a.cls ≤ classRank b.cls)
  listening : s.line.state = .listening → s.line.queue = []
  deferring : s.line.state = .deferring → s.line.queue ≠ []
  sending : s.line.queue.countP (·.inTransmission) = if s.line.state = .sending then 1 else 0

/-! ## Session -/

/-- Outside RUNNING no timed list holds an entry and the line intake queue is empty (R54, R90, R131, R145, R163). -/
structure TimedOnlyInRunning (s : State) : Prop where
  pending : isRunning s = false → s.table.pending = []
  settle : isRunning s = false → s.table.settle = []
  watch : isRunning s = false → s.table.watch = []
  trap : isRunning s = false → s.table.trap = []
  intake : isRunning s = false → s.line.intake = []

/-! ## ATTN -/

/-- The FIFO threshold of the configuration in force is reached (R155). -/
def thresholdReached (s : State) : Prop := ∃ p, s.station.conf = some p ∧ p.fifoThreshold ≤ s.report.fifo.length

/-- ATTN is asserted while a fault is held, the overrun capture is locked or the FIFO threshold is reached; and it is asserted for
nothing else than these and a record that waits in the FIFO of a configured station (R155). -/
structure AttnSound (s : State) : Prop where
  called : s.station.fault.isSome = true ∨ s.report.overrun.isSome = true ∨ thresholdReached s → s.report.attn = true
  caused : s.report.attn = true →
    s.station.fault.isSome = true ∨ s.report.overrun.isSome = true ∨ thresholdReached s ∨
      (s.station.conf.isSome = true ∧ s.report.fifo ≠ [])

/-! ## The configuration -/

/-- The parameters of a channel lie in the ranges of R160. -/
structure ChannelInRange (c : ChannelParams) : Prop where
  threshold : 1 ≤ c.threshold ∧ c.threshold ≤ 254
  guardLevel : 1 ≤ c.guardLevel ∧ c.guardLevel ≤ 255
  filterWidth : c.filterWidth = 2 ∨ c.filterWidth = 4 ∨ c.filterWidth = 8
  quietTime : 10 ≤ c.quietTime ∧ c.quietTime ≤ 500

/-- Every parameter lies in its range (R160). -/
structure ParamsInRange (p : Params) : Prop where
  stationNumber : 1 ≤ p.stationNumber ∧ p.stationNumber ≤ 31
  feeders : p.feeders.length ≤ 3 ∧ p.feeders.Nodup ∧ ∀ n ∈ p.feeders, 1 ≤ n ∧ n ≤ 31 ∧ n ≠ p.stationNumber
  position : p.position ≤ 8000
  trapDistance : 100 ≤ p.trapDistance ∧ p.trapDistance ≤ 5000
  trapWindow : 100 ≤ p.trapWindow ∧ p.trapWindow ≤ 2000
  channels : ∀ ch, ChannelInRange (ofChannel p.channels ch)
  closeGap : 5 ≤ p.closeGap ∧ p.closeGap ≤ 200
  maxDwell : 500 ≤ p.maxDwell ∧ p.maxDwell ≤ 10000
  floorFraction : 4 ≤ p.floorFraction ∧ p.floorFraction ≤ 15
  minimumHits : 1 ≤ p.minimumHits ∧ p.minimumHits ≤ 8
  calibration : -5000 ≤ p.calibration ∧ p.calibration ≤ 5000
  repeatWindow : p.repeatWindow ≤ 60000
  minSector : p.minSector ≤ 600000
  maxSector : 1000 ≤ p.maxSector ∧ p.maxSector ≤ 3600000
  pairWait : p.pairWait ≤ 5000
  settleTime : p.settleTime ≤ 5000
  tolerance : 1 ≤ p.tolerance ∧ p.tolerance ≤ 64
  confidenceMax : 1 ≤ p.confidenceMax ∧ p.confidenceMax ≤ 7
  forecastThreshold : 1 ≤ p.forecastThreshold ∧ p.forecastThreshold ≤ 7
  slack : 1 ≤ p.slack ∧ p.slack ≤ 8
  bypassLimit : 1 ≤ p.bypassLimit ∧ p.bypassLimit ≤ 7
  portPromotion : 1 ≤ p.portPromotion ∧ p.portPromotion ≤ 16
  fifoThreshold : 1 ≤ p.fifoThreshold ∧ p.fifoThreshold ≤ 127
  readTimeout : 1 ≤ p.readTimeout ∧ p.readTimeout ≤ 255
  attentionAge : 1 ≤ p.attentionAge ∧ p.attentionAge ≤ 250

/-- The arguments of one channel read as they were asked (R160, R170, R172). -/
structure ChannelAsked (a : ChannelArgs) (c : ChannelParams) : Prop where
  threshold : c.threshold = a.threshold
  guardLevel : c.guardLevel = a.guardLevel
  filterWidth : c.filterWidth = a.filterWidth
  guardMode : a.guardMode = match c.guardMode with
    | .auto => 1
    | .latched => 2
  quietTime : c.quietTime = a.quietTime

/-- The arguments of CONFIGURE read as they were asked, the enumerated ones by their codes (R160, R170, R172). -/
structure AskedBy (a : ConfigArgs) (p : Params) : Prop where
  stationNumber : p.stationNumber = a.stationNumber
  position : p.position = a.position
  arrangement : (a.arrangement, a.splitMask) = match p.arrangement with
    | .single => (1, 0)
    | .trap => (2, 0)
    | .splitAB => (3, 1)
    | .splitABC => (3, 2)
  feeders : p.feeders = [a.feeder1, a.feeder2, a.feeder3].filter (fun n => n != 0)
  lapLine : a.lapLine = if p.lapLine then 1 else 2
  trapDistance : p.trapDistance = a.trapDistance
  trapWindow : p.trapWindow = a.trapWindow
  channels : ∀ ch, ChannelAsked (ofChannel a.channels ch) (ofChannel p.channels ch)
  closeGap : p.closeGap = a.closeGap
  maxDwell : p.maxDwell = a.maxDwell
  admission : a.admission = match p.admission with
    | .anyone => 1
    | .rosterOnly => 2
  floorFraction : p.floorFraction = a.floorFraction
  minimumHits : p.minimumHits = a.minimumHits
  calibration : p.calibration = a.calibration
  repeatWindow : p.repeatWindow = a.repeatWindow
  minSector : p.minSector = a.minSector
  maxSector : p.maxSector = a.maxSector
  pairWait : p.pairWait = a.pairWait
  settleTime : p.settleTime = a.settleTime
  tolerance : p.tolerance = a.tolerance
  confidenceMax : p.confidenceMax = a.confidenceMax
  forecastThreshold : p.forecastThreshold = a.forecastThreshold
  slack : p.slack = a.slack
  arbiterMode : a.arbiterMode = match p.arbiterMode with
    | .localFirst => 1
    | .lineFirst => 2
  bypassLimit : p.bypassLimit = a.bypassLimit
  portPromotion : p.portPromotion = a.portPromotion
  fifoThreshold : p.fifoThreshold = a.fifoThreshold
  readMode : a.readMode = match p.readMode with
    | .wait => 1
    | .immediate => 2
  readTimeout : p.readTimeout = a.readTimeout
  attentionAge : p.attentionAge = a.attentionAge

/-- `x` is `v` where `v` lies in `lo..hi`, and the nearer end otherwise. -/
def Nearer (lo hi v x : Int) : Prop := (lo ≤ v → v ≤ hi → x = v) ∧ (v < lo → x = lo) ∧ (hi < v → x = hi)

/-- The parameters of one channel go to the nearer ends of their ranges; the filter width to the nearest of 2, 4 and 8, and to the
greater of two equally near (R160). -/
structure ChannelNearerEnds (c d : ChannelParams) : Prop where
  threshold : Nearer 1 254 c.threshold d.threshold
  guardLevel : Nearer 1 255 c.guardLevel d.guardLevel
  filterWidth : d.filterWidth = if c.filterWidth < 3 then 2 else if c.filterWidth < 6 then 4 else 8
  guardMode : d.guardMode = c.guardMode
  quietTime : Nearer 10 500 c.quietTime d.quietTime

/-- The parameters `p` are those asked, each out of its range at the nearer end (R160). -/
structure NearerEnds (asked p : Params) : Prop where
  unclamped : p = { p with
    stationNumber := asked.stationNumber, arrangement := asked.arrangement, feeders := asked.feeders, lapLine := asked.lapLine,
    admission := asked.admission, arbiterMode := asked.arbiterMode, readMode := asked.readMode }
  position : Nearer 0 8000 asked.position p.position
  trapDistance : Nearer 100 5000 asked.trapDistance p.trapDistance
  trapWindow : Nearer 100 2000 asked.trapWindow p.trapWindow
  channels : ∀ ch, ChannelNearerEnds (ofChannel asked.channels ch) (ofChannel p.channels ch)
  closeGap : Nearer 5 200 asked.closeGap p.closeGap
  maxDwell : Nearer 500 10000 asked.maxDwell p.maxDwell
  floorFraction : Nearer 4 15 asked.floorFraction p.floorFraction
  minimumHits : Nearer 1 8 asked.minimumHits p.minimumHits
  calibration : Nearer (-5000) 5000 asked.calibration p.calibration
  repeatWindow : Nearer 0 60000 asked.repeatWindow p.repeatWindow
  minSector : Nearer 0 600000 asked.minSector p.minSector
  maxSector : Nearer 1000 3600000 asked.maxSector p.maxSector
  pairWait : Nearer 0 5000 asked.pairWait p.pairWait
  settleTime : Nearer 0 5000 asked.settleTime p.settleTime
  tolerance : Nearer 1 64 asked.tolerance p.tolerance
  confidenceMax : Nearer 1 7 asked.confidenceMax p.confidenceMax
  forecastThreshold : Nearer 1 7 asked.forecastThreshold p.forecastThreshold
  slack : Nearer 1 8 asked.slack p.slack
  bypassLimit : Nearer 1 7 asked.bypassLimit p.bypassLimit
  portPromotion : Nearer 1 16 asked.portPromotion p.portPromotion
  fifoThreshold : Nearer 1 127 asked.fifoThreshold p.fifoThreshold
  readTimeout : Nearer 1 255 asked.readTimeout p.readTimeout
  attentionAge : Nearer 1 250 asked.attentionAge p.attentionAge

/-! ## Relations used by the obligations -/

/-- The response `r` stands ready in `t` as the answer of a transaction that leaves the made response and the FIFO as they are. -/
def Answered (r : Response) (s t : State) : Prop :=
  t = { s with report :=
    { s.report with transaction := some { response := r, frame := responseFrame r, collects := false, takes := 0 } } }

/-- As `Answered`, whatever the bytes of the response frame. -/
def AnsweredWith (r : Response) (s t : State) : Prop :=
  ∃ frame, t = { s with report :=
    { s.report with transaction := some { response := r, frame := frame, collects := false, takes := 0 } } }

end Sys2Proof.Machine
end

