-- ==== Sys2Proof/Certificates/Slice0/Obligations.lean ====
section
/-! DEFINITION. The statements for the provers, in the order of the chapters. -/

open Sys2Proof Sys2Proof.Machine

/-! ## The queue of commands, resets and station time -/

/-- A step runs the command at the front of the queue on the state with the queue's rest (the interface of the block; no rule of the
manual). -/
def Obligations.StepRunsTheFrontCommand : Prop :=
  ∀ (c : Instr) (cs : List Instr) (s : State), s.pending = c :: cs → step s = exec c { s with pending := cs }

/-- On an empty queue one microsecond of station time passes, and nothing else changes, but for the wrap of R56 (R55; the tick is the
model's choice, notes/assumptions/1.md). -/
def Obligations.EmptyQueueCountsOneMicrosecond : Prop :=
  ∀ s : State, s.pending = [] →
    (s.now.toNat < 281474976710655 → ∃ t, step s = .next t ∧ t = { s with now := t.now } ∧ t.now.toNat = s.now.toNat + 1) ∧
    (s.now.toNat = 281474976710655 → step s = exec .clockWrap s)

/-- Every command of the table answers a next state, in every state, and leaves the commands that wait as they are. That no command
stops is the model's choice where the manual says nothing of a command in a state (log entries 2, 32 and 34); the queue of waiting
commands is the model's interface (log entry 27). -/
def Obligations.EveryCommandAnswersNext : Prop :=
  ∀ (c : Instr) (s : State), ∃ t, exec c s = .next t ∧ t.pending = s.pending

/-- The state after reset meets every invariant that the statements below say every step keeps. -/
def Obligations.ResetMeetsEveryInvariant : Prop :=
  WithinCapacities State.reset ∧ GuardsSound State.reset ∧ PeersSound State.reset ∧ LogSound State.reset ∧
    TableSound State.reset ∧ LineSound State.reset ∧ TimedOnlyInRunning State.reset ∧ AttnSound State.reset

/-- POWER_ON_RESET and RESTART (R162): every block at its reset values; RESTART keeps station time counting and is answered OK. The
carrier indication is an input of the station: watching starts afresh (R90; notes/assumptions/6.md and 31.md). The time of the reset is
held, so that the bursts in reception at it are discarded (R17; notes/assumptions/4.md). -/
def Obligations.ResetCommandsClearEveryBlock : Prop :=
  ∀ s : State,
    (∃ t, exec .powerOnReset s = .next t ∧ t = { State.reset with pending := s.pending, line := t.line } ∧
      t.line = { LineBlock.initial with carrierSince := if s.line.carrierSince.isSome then some 0 else none }) ∧
    (∃ t, exec .restart s = .next t ∧
      t = { State.reset with
        pending := s.pending, now := s.now, channels := { ChannelBlock.initial with resetAt := s.now.toNat }, line := t.line,
        report := t.report } ∧
      t.line = { LineBlock.initial with
        carrierSince := if s.line.carrierSince.isSome then some s.now else none
        attemptFrom := s.line.attemptFrom
        attemptEnd := t.line.attemptEnd } ∧
      t.report = { ReportBlock.initial with
        transaction := some { response := ⟨.ok, .nothing⟩, frame := [0, 0, 0], collects := false, takes := 0 } })

/-- CLOCK_WRAP (R56): at the last value station time continues at 0, the fault is offered and captured as R167 states, ATTN is
asserted, and nothing else changes, in every station state, but for the model's own count of the time of the latest reset, from which
2^48 is taken (the model's choice, log entry 4). -/
def Obligations.ClockWrapOffersTheFault : Prop :=
  ∀ s : State, s.now.toNat = 281474976710655 →
    ∃ t, exec .clockWrap s = .next t ∧
      t = { s with
        now := 0
        channels := { s.channels with resetAt := s.channels.resetAt - 281474976710656 }
        station := { s.station with fault := some (match s.station.fault with
          | none => { code := .clockWrap, time := 0, detail := none, lost := false }
          | some f => { f with lost := true }) }
        report := { s.report with attn := true } }

/-! ## Chapter 1: channels and guards -/

/-- BURST_END (R2 to R5, R17): on a channel that is on, a burst that no overlapping burst covers, whose check matches, whose id is valid
and whose strength reaches the detection threshold completes one hit; every other burst changes nothing. A burst older than the latest
reset was in reception at it and is discarded; one begun since the reset, or stamped with its very microsecond, completes a hit even if
CONFIGURE brought the channel on after its start (the model's choices, log entry 4). -/
def Obligations.BurstEndCompletesOneHit : Prop :=
  ∀ (p : Params) (ch : Channel) (b : Burst) (s : State), s.station.conf = some p →
    exec (.burstEnd ch b) s =
      .next (if channelOn s ch = true ∧ ((s.now - b.start).toNat : Int) ≤ s.now.toNat - s.channels.resetAt ∧
          (∀ x ∈ b.overlaps, x + 6 ≤ b.strength) ∧ b.checkMatches = true ∧ 1 ≤ b.id ∧
          b.id ≤ 16777214 ∧ (ofChannel p.channels ch).threshold ≤ b.strength
        then { s with channels := { s.channels with held := s.channels.held ++
          [{ transponder := b.id, channel := ch, time := b.start, strength := b.strength, lowBattery := b.lowBattery }] } }
        else s)

/-- RISING_CROSSING and FALLING_CROSSING on a channel that is on (R7 to R11): the level indication follows, and the guard moves by its
state and mode; the other guards, the held hits and every other block are unchanged. -/
def Obligations.CrossingsMoveTheGuard : Prop :=
  ∀ (p : Params) (ch : Channel) (s : State), s.station.conf = some p → channelOn s ch = true →
    (∃ t, exec (.risingCrossing ch) s = .next t ∧ t = { s with channels := t.channels } ∧
      t.channels.held = s.channels.held ∧ (∀ x, x ≠ ch → guardOf t x = guardOf s x) ∧
      guardOf t ch =
        match (guardOf s ch).state with
        | .opened =>
          { guardOf s ch with
            high := true, state := .watching, filterDue := some (later s.now ((ofChannel p.channels ch).filterWidth * 1000)) }
        | .quieting => { guardOf s ch with high := true, state := .tripped, quietDue := none }
        | _ => { guardOf s ch with high := true }) ∧
    (∃ t, exec (.fallingCrossing ch) s = .next t ∧ t = { s with channels := t.channels } ∧
      t.channels.held = s.channels.held ∧ (∀ x, x ≠ ch → guardOf t x = guardOf s x) ∧
      guardOf t ch =
        match (guardOf s ch).state, (ofChannel p.channels ch).guardMode with
        | .watching, _ => { guardOf s ch with high := false, state := .opened, filterDue := none }
        | .tripped, .auto =>
          { guardOf s ch with
            high := false, state := .quieting, quietDue := some (later s.now ((ofChannel p.channels ch).quietTime * 1000)) }
        | _, _ => { guardOf s ch with high := false })

/-- FILTER_EXPIRY, QUIET_EXPIRY and GUARD_REARM (R9, R11 to R13) on a channel that is on, with room in the FIFO. A guard in WATCHING whose
filter timer has expired trips, with the trip time now; outside RUNNING that is all. The quiet expiry re-opens a guard in QUIETING, and
GUARD_REARM, answered OK, one in TRIPPED whose level is LOW; the trip time becomes absent. Each issues a GUARD record with its event,
cause and mode, and a REOPEN with the trip time held. The other guards and blocks are unchanged, but for ATTN and a held REPORT_READ. -/
def Obligations.TripsAndReopeningsIssueGuardRecords : Prop :=
  ∀ (p : Params) (ch : Channel) (d : Time) (s : State), s.station.conf = some p → channelOn s ch = true →
    s.report.fifo.length < 128 →
    let keepsOthers (t : State) : Prop := t = { s with channels := t.channels, report := t.report } ∧
      t.channels.held = s.channels.held ∧ (∀ x, x ≠ ch → guardOf t x = guardOf s x) ∧ t.report.overrun = s.report.overrun
    let issues (e : GuardEvent) (t : State) : Prop := t.report.fifo = s.report.fifo ++
      [{ issued := s.now, body := .guard { channel := ch, event := e, mode := (ofChannel p.channels ch).guardMode,
                                           eventTime := s.now } }]
    let reopened : Guard := { guardOf s ch with state := .opened, quietDue := none, tripTime := none }
    ((guardOf s ch).state = .watching → (guardOf s ch).filterDue = some d → reached d s.now = true → s.station.mode ≠ .running →
      ∃ t, exec (.filterExpiry ch) s = .next t ∧ keepsOthers t ∧ issues .trip t ∧
        t.report.transaction = s.report.transaction ∧
        guardOf t ch = { guardOf s ch with state := .tripped, filterDue := none, tripTime := some s.now }) ∧
    ((guardOf s ch).state = .quieting → (guardOf s ch).quietDue = some d → reached d s.now = true →
      ∃ t, exec (.quietExpiry ch) s = .next t ∧ keepsOthers t ∧ issues (.reopenQuiet (guardOf s ch).tripTime) t ∧
        t.report.transaction = s.report.transaction ∧ guardOf t ch = reopened) ∧
    ((guardOf s ch).state = .tripped → (guardOf s ch).high = false →
      ∃ t, exec (.guardRearm (channelCode ch)) s = .next t ∧ keepsOthers t ∧
        issues (.reopenRearm (guardOf s ch).tripTime) t ∧ guardOf t ch = reopened ∧
        t.report.transaction = some { response := ⟨.ok, .nothing⟩, frame := [0, 0, 0], collects := false, takes := 0 })

/-- A trip in RUNNING that leaves no channel of its line group OPEN or WATCHING ends the passes of the group: no OPEN and no PARKED
entry of it is left. The OPEN and PARKED entries of the other groups stand as they were (R14, R15). -/
def Obligations.BlankingTripEndsTheGroupsPasses : Prop :=
  ∀ (p : Params) (ch : Channel) (d : Time) (s t : State), s.station.conf = some p → s.station.mode = .running →
    channelOn s ch = true → (guardOf s ch).state = .watching → (guardOf s ch).filterDue = some d → reached d s.now = true →
    (∀ x ∈ groupChannels p.arrangement (groupOf p.arrangement ch), x ≠ ch →
      (guardOf s x).state = .tripped ∨ (guardOf s x).state = .quieting) →
    exec (.filterExpiry ch) s = .next t →
    (∀ e ∈ t.gather.entries, e.key.group = groupOf p.arrangement ch → e.state = .closing) ∧
    (∀ e ∈ s.gather.entries, e.key.group ≠ groupOf p.arrangement ch → e.state ≠ .closing → e ∈ t.gather.entries)

/-- In every state reached by a step from guards that are sound, the timers and the trip time of each guard stand as its state has
them, and the guard of a channel that is off is inactive (R2, R7 to R12, R16, R17). -/
def Obligations.EveryStepKeepsGuardsSound : Prop :=
  ∀ s t : State, GuardsSound s → step s = .next t → GuardsSound t

/-! ## Chapters 2 and 3: passes, instants, trap speed -/

/-- HIT_DELIVERY of the only completed hit, with no burst in reception, in RUNNING (R6, R21 to R27). A guard in TRIPPED or QUIETING and
the admission filter discard the hit. Otherwise it makes a new OPEN entry where a place is free, joins the OPEN entry of its key, with
a decimation where its 32 stored hits are full, or refreshes the PARKED entry of its key; that an expiry which a join or a refresh
moves is never taken within the delivery is the model's choice (log entry 24). In a full table without its key it is discarded with
CROWDED set, or it takes the place of the entry heard longest ago where that was 2,000 µs before it or more: a PARKED one is removed,
and an OPEN one, of either group, closes EARLY where the local passing queue has a place. -/
def Obligations.DeliveredHitMakesOrJoinsAPass : Prop :=
  ∀ (p : Params) (h : Hit) (s : State), s.station.conf = some p → s.station.mode = .running → s.channels.held = [h] →
    let key : PassKey := ⟨h.transponder, groupOf p.arrangement h.channel⟩
    let left : State := { s with channels := { s.channels with held := [] } }
    let crowded : State := { left with gather := { s.gather with crowded := true } }
    let fresh : Entry :=
      { state := .opened, key := key, firstHit := h.time, lastHit := h.time, stored := [⟨0, h.strength, h.channel⟩], stride := 1,
        skip := 0, hitCount := 1, peak := h.strength, peakChannel := h.channel, flags := if h.lowBattery then 1 else 0,
        silenceDue := some (later h.time (p.closeGap * 1000)), dwellDue := some (later h.time (p.maxDwell * 1000)),
        instant := none, number := none, parkMark := false, closeOrder := 0 }
    let lasts : Prop := isBefore s.now (later h.time (p.closeGap * 1000)) = true
    ((guardOf s h.channel).state = .tripped ∨ (guardOf s h.channel).state = .quieting →
      exec (.hitDelivery h.channel []) s = .next left) ∧
    (p.admission = .rosterOnly → h.transponder ∉ s.gather.filter → exec (.hitDelivery h.channel []) s = .next left) ∧
    ((guardOf s h.channel).state = .opened ∨ (guardOf s h.channel).state = .watching →
      p.admission = .anyone ∨ h.transponder ∈ s.gather.filter →
      (s.gather.entries.length < 48 → (∀ x ∈ s.gather.entries, x.key = key → x.state = .closing) → lasts →
        exec (.hitDelivery h.channel []) s =
          .next { left with gather := { s.gather with entries := s.gather.entries ++ [fresh] } }) ∧
      (∀ before e after, s.gather.entries = before ++ e :: after → e.state = .opened → e.key = key →
        (∀ x ∈ before ++ after, x.key = key → x.state = .closing) →
        let offered : Bool := decide (e.skip + 1 = e.stride)
        let place : StoredHit := ⟨(h.time - e.firstHit).toNat, h.strength, h.channel⟩
        let decimates : Bool := decide (32 ≤ e.stored.length ∧ e.stride < 64)
        let evens : List StoredHit := (e.stored.zipIdx.filter (fun y => decide (y.2 % 2 = 0))).map (·.1)
        exec (.hitDelivery h.channel []) s =
          .next { left with gather := { s.gather with entries :=
            before ++ { e with
               lastHit := h.time, silenceDue := some (later h.time (p.closeGap * 1000)),
               hitCount := if e.hitCount < 65535 then e.hitCount + 1 else e.hitCount,
               peak := max e.peak h.strength, peakChannel := if e.peak < h.strength then h.channel else e.peakChannel,
               flags := if h.lowBattery then e.flags ||| 1 else e.flags,
               stored :=
                if offered then
                  if e.stored.length < 32 then e.stored ++ [place] else if decimates then evens ++ [place] else e.stored
                else e.stored,
               stride := if offered && decimates then e.stride * 2 else e.stride,
               skip := if offered then 0 else e.skip + 1 } :: after } }) ∧
      (∀ before e after, s.gather.entries = before ++ e :: after → e.state = .parked → e.key = key →
        (∀ x ∈ before ++ after, x.key = key → x.state = .closing) →
        exec (.hitDelivery h.channel []) s =
          .next { left with gather := { s.gather with entries :=
            before ++ { e with lastHit := h.time, silenceDue := some (later h.time (p.closeGap * 1000)) } :: after } }) ∧
      (s.gather.entries.length = 48 → (∀ x ∈ s.gather.entries, x.key = key → x.state = .closing) →
        ((∀ x ∈ s.gather.entries, x.state = .closing) → exec (.hitDelivery h.channel []) s = .next crowded) ∧
        (∀ before e after, s.gather.entries = before ++ e :: after → e.state ≠ .closing →
          (∀ x ∈ before ++ after, x.state ≠ .closing →
            isBefore e.lastHit x.lastHit = true ∨ (e.lastHit = x.lastHit ∧ isBefore e.firstHit x.firstHit = true)) →
          (timeDiff h.time e.lastHit < 2000 → exec (.hitDelivery h.channel []) s = .next crowded) ∧
          (e.state = .opened → 16 ≤ s.gather.queue.length → exec (.hitDelivery h.channel []) s = .next crowded) ∧
          (2000 ≤ timeDiff h.time e.lastHit → lasts → e.state = .parked → (∀ x ∈ before ++ after, x.key = e.key → x.state = .closing) →
            exec (.hitDelivery h.channel []) s =
              .next { left with gather := { s.gather with entries := before ++ after ++ [fresh] } }) ∧
          (2000 ≤ timeDiff h.time e.lastHit → lasts → e.state = .opened →
            (∀ x ∈ before ++ after, x.key ≠ e.key ∧ x.state ≠ .closing) → s.gather.queue.length < 16 →
            let closes (number : Option Nat) (t : State) : Prop :=
              exec (.hitDelivery h.channel []) s = .next t ∧ t = { left with gather := t.gather, log := t.log } ∧
              t.gather.entries = before ++ after ++ [fresh] ∧ t.gather.crowded = s.gather.crowded ∧
              t.gather.queue = s.gather.queue ++
                [{ number := number, transponder := e.key.transponder, instant := (closeInstant p e).1,
                   flags := if (closeInstant p e).2 then addFlag (addFlag e.flags .early) .weak else addFlag e.flags .early,
                   peak := e.peak, peakChannel := e.peakChannel, hitCount := e.hitCount }]
            (∀ n, e.key.group = .timing → s.log.counter = some n → n < 4294967295 →
              ∃ t, closes (some n) t ∧ t.log.counter = some (n + 1)) ∧
            (e.key.group = .exitLoop → ∃ t, closes none t ∧ t.log = s.log)))))

/-- However many hits join a pass, its stored hit list keeps to 32 places with the first hit of the pass at its head, its stride stays
a power of two up to 64 with the skip count below it, and the hit count and the peak are those of all hits (R19, R23, R24). -/
def Obligations.StoredHitsStayBounded : Prop :=
  ∀ (p : Params) (k : PassKey) (h : Hit) (hs : List Hit),
    let e := hs.foldl (fun e x => joinHit p x e) (newEntry p k h)
    e.stored.length ≤ 32 ∧ e.stored.head? = some ⟨0, h.strength, h.channel⟩ ∧ e.skip < e.stride ∧
      (∃ j ≤ 6, e.stride = 2 ^ j) ∧ e.hitCount = min 65535 (1 + hs.length) ∧
      e.peak = hs.foldl (fun m x => max m x.strength) h.strength

/-- SILENCE_EXPIRY and DWELL_EXPIRY of an entry that stands alone (R28, R29, R31, R34, R35, R147, R149). A close of the timing group
computes the instant, draws the number, reserves its log place and enters the local passing queue, with STATIONARY after a dwell
expiry, which leaves a PARKED marker where its silence expiry is still to come; a silence expiry removes a PARKED marker. -/
def Obligations.ExpiriesClosePasses : Prop :=
  ∀ (p : Params) (e : Entry) (d : Time) (n : Nat) (s : State), s.station.conf = some p → s.gather.entries = [e] →
    s.gather.queue.length < 16 → s.log.counter = some n → n < 4294967295 →
    (e.state = .opened → e.key.group = .timing → e.silenceDue = some d → reached d s.now = true →
      ∃ t, exec (.silenceExpiry e.key) s = .next t ∧ t = { s with gather := t.gather, log := t.log } ∧
        t.gather = { s.gather with
          entries := []
          closeCount := s.gather.closeCount + 1
          queue := s.gather.queue ++
            [{ number := some n, transponder := e.key.transponder, instant := (closeInstant p e).1,
               flags := if (closeInstant p e).2 then addFlag e.flags .weak else e.flags, peak := e.peak,
               peakChannel := e.peakChannel, hitCount := e.hitCount }] } ∧
        t.log.counter = some (n + 1) ∧ { number := n, entry := none } ∈ t.log.places ∧
        (∀ q ∈ s.log.places, q.number % 2048 ≠ n % 2048 → q ∈ t.log.places)) ∧
    (e.state = .opened → e.key.group = .timing → e.dwellDue = some d → reached d s.now = true →
      isBefore s.now (later e.lastHit (p.closeGap * 1000)) = true →
      ∃ t m, exec (.dwellExpiry e.key) s = .next t ∧ t = { s with gather := t.gather, log := t.log } ∧
        t.gather.entries = [m] ∧ m.state = .parked ∧ m.key = e.key ∧ m.lastHit = e.lastHit ∧ m.firstHit = e.firstHit ∧
        m.silenceDue = some (later e.lastHit (p.closeGap * 1000)) ∧ m.stored = [] ∧ m.number = none ∧
        t.gather.queue = s.gather.queue ++
          [{ number := some n, transponder := e.key.transponder, instant := (closeInstant p e).1,
             flags := if (closeInstant p e).2 then addFlag (addFlag e.flags .stationary) .weak else addFlag e.flags .stationary,
             peak := e.peak, peakChannel := e.peakChannel, hitCount := e.hitCount }] ∧
        t.log.counter = some (n + 1)) ∧
    (e.state = .parked → e.silenceDue = some d → reached d s.now = true →
      exec (.silenceExpiry e.key) s = .next { s with gather := { s.gather with entries := [] } })

/-- The instant's offset from the first hit (R42 to R45). Where at least M considered hits carry weight, the closing is not WEAK and the
offset lies between the least and the greatest dt of the considered hits that carry weight: the law of R44. Otherwise the closing is
WEAK, and the offset is the dt of a considered hit of greatest strength and, among those, least dt; the choice is among all stored
hits where none is considered. -/
def Obligations.InstantComesFromTheConsideredHits : Prop :=
  ∀ (p : Params) (peak : Nat) (ch : Channel) (hits : List StoredHit) (lo hi : Nat), 1 ≤ p.minimumHits → hits ≠ [] →
    let considered := if isSplit p.arrangement then hits.filter (fun h => h.channel == ch) else hits
    let choices := if considered = [] then hits else considered
    let weighted (h : StoredHit) : Bool := decide (peak * p.floorFraction / 16 < h.strength)
    (p.minimumHits ≤ considered.countP weighted → (∀ h ∈ considered, weighted h = true → lo ≤ h.dt ∧ h.dt ≤ hi) →
      (instantOffset p peak ch hits).2 = false ∧ lo ≤ (instantOffset p peak ch hits).1 ∧
        (instantOffset p peak ch hits).1 ≤ hi) ∧
    (considered.countP weighted < p.minimumHits →
      (instantOffset p peak ch hits).2 = true ∧
      ∃ h ∈ choices, (instantOffset p peak ch hits).1 = h.dt ∧
        ∀ k ∈ choices, k.strength < h.strength ∨ (k.strength = h.strength ∧ h.dt ≤ k.dt))

/-- The trap logic takes an item of a slot, with room in the FIFO (R47 to R51). With no trap wait the item is held until the trap window
has passed. A second item of the same side ends the held one with an OUT_OF_WINDOW record and is held in its place. An item of the
other side makes a pair, judged on Δt, the instant on B less the instant on A: REVERSED at 0 or less, OUT_OF_WINDOW above the trap
window, and else the speed in 0.1 km/h, rounded to nearest with halves up and saturated at 9,999 with SATURATED. The SPEED record gives
both instants, Δt and both flag words, and a computed speed is written into the log entry of the passing on A. -/
def Obligations.TrapSpeedIsJudged : Prop :=
  ∀ (p : Params) (i : SlotNo) (x : TrapItem) (s : State), s.report.fifo.length < 128 →
    let t := takeTrapItem p i x s
    let held : TrapWait :=
      { slot := i, side := x.side, instant := x.instant, number := x.number, flags := x.flags,
        expiry := later s.now (p.trapWindow * 1000), due := false }
    let window : Int := (p.trapWindow * 1000 : Nat)
    (s.table.trap = [] → t = { s with table := { s.table with trap := [held] } }) ∧
    (∀ w, s.table.trap = [w] → w.slot = i → w.side = x.side →
      t = { s with table := { s.table with trap := [held] }, report := t.report } ∧
      t.report.fifo = s.report.fifo ++
        [{ issued := s.now,
           body := .speed { slot := i, transponder := ((slotOf s i).transponder).getD 0, competitor := (slotOf s i).competitor,
                            entryNumber := w.number, entryInstant := if w.side = .entry then some w.instant else none,
                            exitInstant := if w.side = .exit then some w.instant else none, delta := none, speed := none,
                            reason := some .outOfWindow, flags := 0,
                            entryFlags := if w.side = .entry then some w.flags else none,
                            exitFlags := if w.side = .exit then some w.flags else none } }]) ∧
    (∀ w, s.table.trap = [w] → w.slot = i → w.side ≠ x.side →
      let a : TrapItem := if x.side = .entry then x else ⟨w.side, w.instant, w.number, w.flags⟩
      let b : TrapItem := if x.side = .entry then ⟨w.side, w.instant, w.number, w.flags⟩ else x
      let delta := timeDiff b.instant a.instant
      t = { s with table := { s.table with trap := [] }, log := t.log, report := t.report } ∧
      ∃ r : SpeedRec, t.report.fifo = s.report.fifo ++ [{ issued := s.now, body := .speed r }] ∧
        r = { r with
          slot := i, transponder := ((slotOf s i).transponder).getD 0, competitor := (slotOf s i).competitor,
          entryNumber := a.number, entryInstant := some a.instant, exitInstant := some b.instant, delta := some delta,
          entryFlags := some a.flags, exitFlags := some b.flags } ∧
        (delta ≤ 0 → r.reason = some .reversed ∧ r.speed = none ∧ r.flags = 0 ∧ t.log = s.log) ∧
        (0 < delta → window < delta → r.reason = some .outOfWindow ∧ r.speed = none ∧ r.flags = 0 ∧ t.log = s.log) ∧
        (0 < delta → delta ≤ window → ∃ v sat, r.reason = none ∧ r.speed = some v ∧ r.flags = (if sat then 32768 else 0) ∧ v ≤ 9999 ∧
          (sat = false → 2 * p.trapDistance * 360000 < (2 * (v : Int) + 1) * delta ∧
            (2 * (v : Int) - 1) * delta ≤ 2 * p.trapDistance * 360000) ∧
          (sat = true → v = 9999 ∧ (2 * 9999 + 1) * delta ≤ 2 * p.trapDistance * 360000) ∧
          ∀ n e, a.number = some n → logEntry s n = some e →
            logEntry t n = some { e with speed := some { speed := v, saturated := sat, exitFlags := b.flags } }))

/-! ## Chapter 4: station time and peer clocks -/

/-- The moves of a peer record on a usable sample (R61 to R63). UNHEARD and STALE are acquired, whatever offset is held. In ACQUIRING every
sample is filtered and counted, and the fourth locks. In LOCKED a sample within 200 µs of the offset is filtered and counted; another
is rejected, and the third in a row acquires the peer anew. The filter adds a quarter of the difference, rounded to nearest with
halves away from zero, and so stays between the old offset and 16 × sample, both ends included. Each change of clock state has its
cause, and the rejections stay at 2 or fewer. -/
def Obligations.SamplesAcquireLockAndReject : Prop :=
  ∀ (sample : Int) (r : PeerRecord),
    let offset := r.offset.getD 0
    let diff := 16 * sample - offset
    let acquired : PeerRecord := { r with clock := .acquiring, offset := some (16 * sample), count := 1, rejections := 0 }
    ∃ moved : Int, (4 * moved - diff).natAbs ≤ 2 ∧ (diff.natAbs % 4 = 2 → 4 * moved.natAbs = diff.natAbs + 2) ∧
      min offset (16 * sample) ≤ offset + moved ∧ offset + moved ≤ max offset (16 * sample) ∧
      let filtered : PeerRecord :=
        { r with offset := some (offset + moved), count := if r.count < 65535 then r.count + 1 else r.count, rejections := 0 }
      (r.clock = .unheard → sampleMove sample r = (acquired, some .firstSample)) ∧
      (r.clock = .stale → sampleMove sample r = (acquired, some .resumed)) ∧
      (r.clock = .acquiring → sampleMove sample r =
        if 3 ≤ r.count then ({ filtered with clock := .locked }, some .lock) else (filtered, none)) ∧
      (r.clock = .locked → sampleMove sample r =
        if diff.natAbs ≤ 3200 then (filtered, none)
        else if r.rejections < 2 then ({ r with rejections := r.rejections + 1 }, none)
        else (acquired, some .rejections)) ∧
      (sampleMove sample r).1.rejections ≤ 2

/-- STALE_EXPIRY (R64 to R66): the record of an ACQUIRING or LOCKED peer whose stale expiry has come goes STALE and keeps its offset
and count. For a station that is no feeder that is all. For a feeder in RUNNING, with room in the FIFO and no fault held, a PEER
record is issued, FEEDER_SILENT is captured with the station number, and ATTN is asserted. -/
def Obligations.StaleExpirySilencesThePeer : Prop :=
  ∀ (p : Params) (n : Nat) (k : Fin 31) (d : Time) (s : State), s.station.conf = some p → peerIndex n = some k →
    (peerOf s k).clock = .acquiring ∨ (peerOf s k).clock = .locked → (peerOf s k).staleDue = some d → reached d s.now = true →
    (¬ n ∈ p.feeders → ∃ t, exec (.staleExpiry n) s = .next t ∧ t = { s with clock := t.clock } ∧
      t.clock = { s.clock with peers := t.clock.peers } ∧ (∀ j, j ≠ k → peerOf t j = peerOf s j) ∧
      peerOf t k = { peerOf s k with clock := .stale, rejections := 0, staleDue := none }) ∧
    (n ∈ p.feeders → s.station.mode = .running → s.report.fifo.length < 128 → s.station.fault = none →
      ∃ t, exec (.staleExpiry n) s = .next t ∧ t = { s with clock := t.clock, station := t.station, report := t.report } ∧
        t.clock = { s.clock with peers := t.clock.peers } ∧ (∀ j, j ≠ k → peerOf t j = peerOf s j) ∧
        peerOf t k = { peerOf s k with clock := .stale, rejections := 0, staleDue := none } ∧
        t.station = { s.station with
          fault := some { code := .feederSilent, time := s.now, detail := some n, lost := false } } ∧
        t.report.attn = true ∧ t.report.overrun = s.report.overrun ∧
        t.report.fifo = s.report.fifo ++
          [{ issued := s.now, body := .peer { station := n, previous := (peerOf s k).clock, new := .stale, cause := .silence,
                                              eventTime := s.now, offset := ((peerOf s k).offset).getD 0,
                                              count := (peerOf s k).count } }])

/-- A frame with a TIME or a STATUS notice of another station, taken in a configured station outside the span of its own attempts (R60,
R61, R69, R86 to R88, R169). TIME: for an UNHEARD record that is no feeder's it acquires the peer: position, offset, last heard time and
stale expiry are set. STATUS: outside CLEARING the peer's status fields and their time are set, and in CLEARING the notice is
discarded. Nothing else changes. -/
def Obligations.TimeFrameAcquiresThePeer : Prop :=
  ∀ (p : Params) (n position : Nat) (k : Fin 31) (send receive : Time) (s : State), s.station.conf = some p →
    peerIndex n = some k → n ≠ p.stationNumber → ownFrame receive s = false →
    let keepsOthers (t : State) : Prop := t = { s with clock := t.clock } ∧ t.clock = { s.clock with peers := t.clock.peers } ∧
      ∀ j, j ≠ k → peerOf t j = peerOf s j
    (¬ n ∈ p.feeders → position ≤ 8000 → (peerOf s k).clock = .unheard →
      let delay := roundHalfUp ((max p.position position - min p.position position) * 5) 1000
      let sample := timeDiff receive (later send delay)
      sample.natAbs ≤ 1099511627775 →
      ∃ t, exec (.frameReceived (buildFrame n position send .time) receive) s = .next t ∧ keepsOthers t ∧
        peerOf t k = { peerOf s k with
          position := some position, clock := .acquiring, offset := some (16 * sample), count := 1, rejections := 0,
          lastHeard := some receive, staleDue := some (later receive 500000) }) ∧
    (∀ f : StatusFields, f.stationState < 256 → f.arrangement < 256 → f.lapLine < 256 → f.feeder1 < 256 → f.feeder2 < 256 →
      f.feeder3 < 256 → f.fault < 256 → f.latest < 4294967296 → f.unsent < 65536 →
      (s.station.mode ≠ .clearing → ∃ t, exec (.frameReceived (buildFrame n position send (.status f)) receive) s = .next t ∧
        keepsOthers t ∧ peerOf t k = { peerOf s k with status := some (f, receive) }) ∧
      (s.station.mode = .clearing → exec (.frameReceived (buildFrame n position send (.status f)) receive) s = .next s))

/-- PEER_READ (R70): in a configured station a station number of 1..31 other than its own is answered OK with the record and its
derived values, and every other number BAD_ARGUMENT; nothing else changes. -/
def Obligations.PeerReadAnswersTheRecord : Prop :=
  ∀ (p : Params) (n : Nat) (s : State), s.station.conf = some p →
    ∃ t, exec (.peerRead n) s = .next t ∧
      (n = 0 ∨ 31 < n ∨ n = p.stationNumber → Answered ⟨.badArgument, .nothing⟩ s t) ∧
      (∀ k, peerIndex n = some k → n ≠ p.stationNumber →
        Answered ⟨.ok, .peer
          { peer := peerOf s k, isFeeder := decide (n ∈ p.feeders),
            lineDelay := (peerOf s k).position.map (fun x => roundHalfUp ((max p.position x - min p.position x) * 5) 1000),
            roundedOffset := (peerOf s k).offset.map (fun o => roundHalfAway o 16), time := s.now }⟩ s t)

/-- Every step keeps every peer record sound: offset, stale expiry, count and rejections stand as the clock state has them, and the
rejections stay at 2 or fewer (R59, R61 to R64). -/
def Obligations.EveryStepKeepsPeersSound : Prop :=
  ∀ s t : State, PeersSound s → step s = .next t → PeersSound t

/-! ## Chapter 5: the loop line -/

/-- TIME_INTERVAL_EXPIRY and STATUS_INTERVAL_EXPIRY (R58, R69, R79, R80). With room in the reserve a TIME notice takes the place behind the
High and Middle notices, and LISTENING becomes DEFERRING; without room it is discarded and the interval timer starts. The next STATUS
offer falls 1 s after this one. A STATUS notice that waits takes the new contents and keeps the rest, the first in queue order where
two wait (the model's choice, log entry 46); with none waiting and with room, a new notice takes the tail of the Low class. The
contents are those of R69, the feeders named first and zeros behind them (the model's choice, log entry 49). -/
def Obligations.IntervalsOfferTimeAndStatusNotices : Prop :=
  (∀ (d : Time) (before after : List Notice) (s : State), s.clock.timeDue = some d → reached d s.now = true →
    s.line.queue = before ++ after → (∀ n ∈ before, n.cls ≠ .low) → (∀ n ∈ after, n.cls = .low) →
    (s.line.queue.length < 24 → s.line.queue.countP isTimed < 8 →
      ∃ t, exec .timeIntervalExpiry s = .next t ∧ t = { s with clock := t.clock, line := t.line } ∧
        t.clock = { s.clock with timeDue := none } ∧
        t.line.queue = before ++
          { body := .time, cls := .middle, entryTime := s.now, collisions := 0, inTransmission := false, followOn := none,
            leftOver := false } :: after ∧
        (s.line.state = .listening → t.line.state = .deferring) ∧
        (s.line.state ≠ .listening → t.line = { s.line with queue := t.line.queue })) ∧
    (s.line.queue.length = 24 ∨ 8 ≤ s.line.queue.countP isTimed →
      exec .timeIntervalExpiry s = .next { s with clock := { s.clock with timeDue := some (later s.now 50000) } })) ∧
  (∀ (p : Params) (d : Time) (s : State), s.station.conf = some p → s.clock.statusDue = some d → reached d s.now = true →
    let contents : StatusFields :=
      { stationState := match s.station.mode with
          | .clearing => 3
          | .running => 4
          | _ => 2
        arrangement := arrangementCode p.arrangement, lapLine := if p.lapLine then 1 else 2, feeder1 := p.feeders.getD 0 0,
        feeder2 := p.feeders.getD 1 0, feeder3 := p.feeders.getD 2 0,
        fault := match s.station.fault with
          | none => 0
          | some f => faultCodeNat f.code
        latest := (latestDrawn s.log).getD 0, unsent := unsentCount s }
    ∃ t, exec .statusIntervalExpiry s = .next t ∧ t = { s with clock := t.clock, line := t.line } ∧
      t.clock = { s.clock with statusDue := some (later s.now 1000000) } ∧
      (∀ before n after f, s.line.queue = before ++ n :: after → n.body = .status f → n.inTransmission = false →
        (∀ m ∈ before, isWaitingStatus m = false) →
        t.line = { s.line with queue := before ++ { n with body := .status contents } :: after }) ∧
      ((∀ m ∈ s.line.queue, isWaitingStatus m = false) → s.line.queue.length < 24 → s.line.queue.countP isTimed < 8 →
        t.line.queue = s.line.queue ++
          [{ body := .status contents, cls := .low, entryTime := s.now, collisions := 0, inTransmission := false,
             followOn := none, leftOver := false }]))

/-- STATUS_PROMOTION (R81): a STATUS notice of the Low class 100,000 µs or more after its entry takes its place in the Middle class by
entry time, behind equal ones (the model's choice, log entry 22); its contents, entry time and collision count are kept, and nothing else changes. -/
def Obligations.StatusPromotionMovesToMiddle : Prop :=
  ∀ (n : Notice) (f : StatusFields) (high early late low : List Notice) (s : State),
    s.line.queue = high ++ early ++ late ++ n :: low → n.body = .status f → n.cls = .low →
    reached (later n.entryTime 100000) s.now = true →
    (∀ m ∈ high, m.cls = .high) → (∀ m ∈ early, m.cls = .middle ∧ isBefore n.entryTime m.entryTime = false) →
    (∀ m ∈ late, m.cls = .middle ∧ isBefore n.entryTime m.entryTime = true) → (∀ m ∈ low, m.cls = .low) →
    exec .statusPromotion s =
      .next { s with line := { s.line with queue := high ++ early ++ { n with cls := .middle } :: late ++ low } }

/-- CARRIER_RISE, CARRIER_DROP, BACKOFF_END, CONGESTION_END and LINE_JAMMED (R74, R76 to R78). The carrier is watched from its rise, and the
quiet time is 0 while it is present; at its drop quiet time counts in DEFERRING, and JAMMED ends. At the end of a wait the line is
DEFERRING afresh, or LISTENING with an empty queue. A carrier present for 20,000 µs jams the line: waits are cancelled, every notice
keeps its place and collision count, LINE_JAMMED is captured where no fault is held, and ATTN is asserted. -/
def Obligations.CarrierAndWaitsMoveTheLineState : Prop :=
  (∀ s : State,
    (s.line.carrierSince = none →
      exec .carrierRise s = .next { s with line := { s.line with carrierSince := some s.now, quietFrom := none } }) ∧
    (∀ c, s.line.carrierSince = some c →
      ∃ t, exec .carrierDrop s = .next t ∧ t = { s with line := t.line } ∧ t.line.carrierSince = none ∧
        t.line.queue = s.line.queue ∧
        (s.line.state = .deferring → t.line = { s.line with carrierSince := none, quietFrom := some s.now }) ∧
        (s.line.state = .jammed → s.line.queue = [] → t.line.state = .listening) ∧
        (s.line.state = .jammed → s.line.queue ≠ [] → t.line.state = .deferring ∧ t.line.quietFrom = some s.now) ∧
        (s.line.state ≠ .deferring → s.line.state ≠ .jammed → t.line = { s.line with carrierSince := none }))) ∧
  (∀ (d : Time) (s : State), s.line.waitDue = some d → reached d s.now = true →
    let after : State := { s with line :=
      if s.line.queue = [] then { s.line with state := .listening, waitDue := none, quietFrom := none }
      else { s.line with
        state := .deferring, waitDue := none, quietFrom := if s.line.carrierSince = none then some s.now else none } }
    (s.line.state = .backoff → exec .backoffEnd s = .next after) ∧ (s.line.state = .congested → exec .congestionEnd s = .next after)) ∧
  (∀ (c : Time) (s : State), s.line.carrierSince = some c → reached (later c 20000) s.now = true → s.line.state ≠ .jammed →
    s.line.state ≠ .sending → (∀ n ∈ s.line.queue, n.inTransmission = false) → s.station.fault = none →
    exec .lineJammed s =
      .next { s with
        line := { s.line with state := .jammed, quietFrom := none, waitDue := none }
        station := { s.station with fault := some { code := .lineJammed, time := s.now, detail := none, lost := false } }
        report := { s.report with attn := true } })

/-- ATTEMPT_START (R73 to R75, R169): in DEFERRING, when the carrier has been quiet for the gap of the head notice's class, the head is
in transmission and its frame goes out, a TIME notice with the present station time (the model's choice, log entry 8); before that
nothing changes (the model's choice, log entry 2). -/
def Obligations.AttemptStartsAtTheGap : Prop :=
  ∀ (p : Params) (n : Notice) (rest : List Notice) (q : Time) (s : State), s.station.conf = some p →
    s.line.state = .deferring → s.line.queue = n :: rest → s.line.carrierSince = none → s.line.quietFrom = some q →
    let gap : Int := match n.cls with
      | .high => 6
      | .middle => 8
      | .low => 12
    exec .attemptStart s =
      .next (if gap ≤ timeDiff s.now q
        then { s with line := { s.line with
          state := .sending, queue := { n with inTransmission := true } :: rest, quietFrom := none, attemptFrom := some s.now,
          attemptEnd := none, frame := buildFrame p.stationNumber p.position s.now n.body } }
        else s)

/-- ATTEMPT_COMPLETE (R58, R75, R83, R85, R90): the notice in transmission leaves the queue. A TIME notice starts the interval timer. The
follow-on of a PASSING or REVISE notice enters as a REVISE notice at the tail of the High class. Without a follow-on, and with no
PASSING or REVISE notice left, the log entry marked UNSENT of the lowest number is pulled: its owed notice, built from the entry as it
stands, enters at the tail of the High class, and its mark is cleared; with none marked, or with such a notice left, the rest of the
queue stays. A notice left over from a cleared session brings nothing. Then the line is DEFERRING, or LISTENING with an empty queue. -/
def Obligations.CompletedAttemptLeavesTheQueue : Prop :=
  ∀ (n : Notice) (rest : List Notice) (s : State), s.line.state = .sending → s.line.queue = n :: rest →
    n.inTransmission = true →
    let fresh (b : NoticeBody) : Notice :=
      { body := b, cls := .high, entryTime := s.now, collisions := 0, inTransmission := false, followOn := none, leftOver := false }
    ∃ t, exec .attemptComplete s = .next t ∧ t = { s with clock := t.clock, line := t.line, log := t.log } ∧
      t.line.state = (if t.line.queue = [] then .listening else .deferring) ∧ t.line.frame = [] ∧
      t.line.attemptEnd = some s.now ∧
      (n.body = .time → t.line.queue = rest ∧ t.log = s.log ∧
        t.clock = { s.clock with timeDue := some (later s.now 50000) }) ∧
      (n.body ≠ .time → t.clock = s.clock) ∧
      (∀ f, n.body = .status f → t.line.queue = rest ∧ t.log = s.log) ∧
      (isTimed n = false → n.leftOver = true → t.line.queue = rest ∧ t.log = s.log) ∧
      (∀ x tr, (∃ i w, n.body = .passing x tr i w) ∨ (∃ r, n.body = .revise x tr r) → n.leftOver = false →
        ∀ high low, rest = high ++ low → (∀ m ∈ high, m.cls = .high) → (∀ m ∈ low, m.cls ≠ .high) →
        (∀ r, n.followOn = some r → t.log = s.log ∧ t.line.queue = high ++ fresh (.revise x tr r) :: low) ∧
        (n.followOn = none → unsentCount s = 0 ∨ (∃ m ∈ rest, isTimed m = false) → t.line.queue = rest ∧ t.log = s.log) ∧
        (∀ q e o, n.followOn = none → (∀ m ∈ rest, isTimed m = true) → q ∈ s.log.places → q.entry = some e → e.unsent = some o →
          (∀ q' ∈ s.log.places, ∀ e', q'.entry = some e' → e'.unsent ≠ none → e' = e ∨ e.number < e'.number) →
          t.line.queue = high ++ fresh (match o with
            | .passing => .passing e.number e.transponder e.instant
                (if e.retimed then addFlag (dropFlag e.flags .untracked) .retimed else dropFlag e.flags .untracked)
            | .revise => .revise e.number e.transponder (if e.withdrawn then .withdraw else .retime e.instant)) :: low ∧
          t.log.counter = s.log.counter ∧
          ∀ k, logEntry t k = (logEntry s k).map (fun y => if k = e.number then { y with unsent := none } else y)))

/-- COLLISION (R75 to R77): the attempt ends and the collision count rises to n. Below 12 the line waits k slots of 100 µs, where k
lies in 0..2^min(n,6) - 1; k = 0 ends the wait at once. That k is taken from the command's draw and that such
a wait ends within COLLISION is the model's choice (log entry 9). The twelfth discards a TIME or STATUS notice,
and it pauses the line for 20,000 µs and clears the count for a PASSING or REVISE notice without follow-on. -/
def Obligations.CollisionBacksOffOrEndsTheRun : Prop :=
  ∀ (draw : Nat) (n : Notice) (rest : List Notice) (s : State), s.line.state = .sending → s.line.queue = n :: rest →
    n.inTransmission = true → n.followOn = none → n.leftOver = false →
    ∃ t, exec (.collision draw) s = .next t ∧ t = { s with clock := t.clock, line := t.line } ∧ t.line.frame = [] ∧
      (n.collisions < 11 → t.clock = s.clock ∧
        t.line.queue = { n with collisions := n.collisions + 1, inTransmission := false } :: rest ∧
        ∃ k, k < 2 ^ min (n.collisions + 1) 6 ∧ k % 2 ^ min (n.collisions + 1) 6 = draw % 2 ^ min (n.collisions + 1) 6 ∧
          t.line.state = (if k = 0 then .deferring else .backoff) ∧
          t.line.waitDue = (if k = 0 then none else some (later s.now (100 * k)))) ∧
      (n.collisions = 11 → isTimed n = true →
        t.line.queue = rest ∧ t.line.state = (if rest = [] then .listening else .deferring) ∧
        t.clock.timeDue = if n.body = .time then some (later s.now 50000) else s.clock.timeDue) ∧
      (n.collisions = 11 → isTimed n = false → t.clock = s.clock ∧
        t.line.queue = { n with collisions := 0, inTransmission := false } :: rest ∧ t.line.state = .congested ∧
        t.line.waitDue = some (later s.now 20000))

/-- FRAME_RECEIVED (R67, R68, R86 to R89, R169). The frame of a feeder's PASSING or REVISE notice, received in RUNNING, enters the line
intake queue as one item with its tag and with its instant, or the new instant of a RETIME, converted by the origin's record, or sets
LINE_OVERRUN where the queue holds 32; outside RUNNING, and from a station that is no feeder, it is discarded. A damaged frame, every
frame in UNCONFIGURED and the station's own frame are discarded. A whole frame with the station's own number that is not its own offers
the fault DUPLICATE_STATION with that number. -/
def Obligations.FramesEnterTheIntakeOrShowADuplicate : Prop :=
  (∀ (p : Params) (origin number transponder position : Nat) (k : Fin 31) (send instant receive : Time) (w : Flags) (s : State),
    s.station.conf = some p → origin ≠ p.stationNumber → peerIndex origin = some k → 1 ≤ number → number ≤ 4294967295 →
    1 ≤ transponder → transponder ≤ 16777214 → ownFrame receive s = false →
    let passing := buildFrame origin position send (.passing number transponder instant w)
    let retime := buildFrame origin position send (.revise number transponder (.retime instant))
    let withdraw := buildFrame origin position send (.revise number transponder .withdraw)
    let converted : Option Time := match (peerOf s k).clock with
      | .unheard => none
      | _ => some (instant + BitVec.ofInt 48 (roundHalfAway ((peerOf s k).offset.getD 0) 16))
    let flag : ClockFlag := match (peerOf s k).clock with
      | .locked => .plain
      | .unheard => .noClock
      | _ => .soft
    let taken (b : IntakeBody) : State := { s with line :=
      if s.line.intake.length < 32
      then { s.line with intake := s.line.intake ++ [{ tag := ⟨origin, number⟩, transponder := transponder, body := b }] }
      else { s.line with overrun := true } }
    (s.station.mode = .running → origin ∈ p.feeders →
      exec (.frameReceived passing receive) s = .next (taken (.passing converted flag w)) ∧
      exec (.frameReceived retime receive) s = .next (taken (.retime converted flag)) ∧
      exec (.frameReceived withdraw receive) s = .next (taken .withdraw)) ∧
    (s.station.mode ≠ .running ∨ origin ∉ p.feeders →
      exec (.frameReceived passing receive) s = .next s ∧ exec (.frameReceived retime receive) s = .next s ∧
      exec (.frameReceived withdraw receive) s = .next s)) ∧
  (∀ (signal : List Bool) (receive : Time) (s : State),
    (receiveFrame signal = none ∨ s.station.conf = none ∨ ownFrame receive s = true →
      exec (.frameReceived signal receive) s = .next s) ∧
    (∀ p n, s.station.conf = some p → receiveFrame signal = some n → rxOrigin n = p.stationNumber → ownFrame receive s = false →
      exec (.frameReceived signal receive) s =
        .next { s with
          station := { s.station with fault := some (match s.station.fault with
            | none => { code := .duplicateStation, time := s.now, detail := some p.stationNumber, lost := false }
            | some f => { f with lost := true }) }
          report := { s.report with attn := true } }))

/-- A frame that a station builds gives a peer the notice that was sent, with every field as it was sent, for every kind and every value
that the fields admit (11.1, R86, R169); also where the preamble is received only in part, and behind any number of idle bits: the
receive path finds the start delimiter at every bit position (the model's reading, log entry 10). -/
def Obligations.FramesArriveAsTheyWereSent : Prop :=
  ∀ (origin position idle lost : Nat) (send : Time) (b : NoticeBody), 1 ≤ origin → origin ≤ 31 → position ≤ 65535 → lost ≤ 32 →
    (∀ n t i w, b = .passing n t i w → 1 ≤ n ∧ n ≤ 4294967295 ∧ 1 ≤ t ∧ t ≤ 16777214) →
    (∀ n t r, b = .revise n t r → 1 ≤ n ∧ n ≤ 4294967295 ∧ 1 ≤ t ∧ t ≤ 16777214) →
    (∀ f, b = .status f → f.stationState < 256 ∧ f.arrangement < 256 ∧ f.lapLine < 256 ∧ f.feeder1 < 256 ∧ f.feeder2 < 256 ∧
      f.feeder3 < 256 ∧ f.fault < 256 ∧ f.latest < 4294967296 ∧ f.unsent < 65536) →
    receiveFrame (List.replicate idle false ++ (buildFrame origin position send b).drop lost) = some (match b with
      | .time => .time origin send position
      | .status f => .status origin f
      | .passing n t i w => .passing origin n t i w
      | .revise n t r => .revise origin n t r)

/-- Every step keeps the transmit queue in the order of its classes and in agreement with the line state (5.3, R74 to R79). -/
def Obligations.EveryStepKeepsTheLineSound : Prop :=
  ∀ s t : State, LineSound s → step s = .next t → LineSound t

/-! ## Chapter 6: the competitor table and its arbiter -/

/-- PAIR_WAIT_DUE, SETTLE_DUE, WATCH_DUE and TRAP_WAIT_DUE (R101): the entry of the slot in its list joins the TIMER queue when its time
has been reached; every other entry, and everything else, is unchanged. -/
def Obligations.DueEntriesJoinTheTimerQueue : Prop :=
  ∀ (i : SlotNo) (s : State),
    (∀ before e after, s.table.pending = before ++ e :: after → e.slot = i → (∀ x ∈ before ++ after, x.slot ≠ i) →
      reached e.expiry s.now = true →
      exec (.pairWaitDue i) s = .next { s with table := { s.table with pending := before ++ { e with due := true } :: after } }) ∧
    (∀ before e after, s.table.settle = before ++ e :: after → e.slot = i → (∀ x ∈ before ++ after, x.slot ≠ i) →
      reached e.expiry s.now = true →
      exec (.settleDue i) s = .next { s with table := { s.table with settle := before ++ { e with due := true } :: after } }) ∧
    (∀ before e after, s.table.watch = before ++ e :: after → e.slot = i → (∀ x ∈ before ++ after, x.slot ≠ i) →
      reached e.dueTime s.now = true →
      exec (.watchDue i) s = .next { s with table := { s.table with watch := before ++ { e with due := true } :: after } }) ∧
    (∀ before e after, s.table.trap = before ++ e :: after → e.slot = i → (∀ x ∈ before ++ after, x.slot ≠ i) →
      reached e.expiry s.now = true →
      exec (.trapWaitDue i) s = .next { s with table := { s.table with trap := before ++ { e with due := true } :: after } })

/-- The arbiter's choice (R103, R105): PORT if its request is promoted, that is, if the station time less its arrival time is greater than
the port promotion time × 1,000 µs; else the first requester in the order of the arbiter mode among those that wait and are overdue;
else the first that waits. A grant that the choice does not name is not made, for each of the four requesters, and none is made without a
configuration: the command leaves the state as it is (the model's reading and choice, log entries 30 and 2). -/
def Obligations.ArbiterChoosesByPromotionBypassAndMode : Prop :=
  (∀ (p : Params) (s : State),
    let order : List Requester := match p.arbiterMode with
      | .localFirst => [.loc, .line, .timer, .port]
      | .lineFirst => [.line, .loc, .timer, .port]
    let overdueWaiting (r : Requester) : Prop := waits s r = true ∧ p.bypassLimit < bypassOf s.table.bypass r
    (promoted p s = true → choice p s = some .port) ∧
    (promoted p s = false → ∀ before r after, order = before ++ r :: after →
      (overdueWaiting r → (∀ x ∈ before, ¬ overdueWaiting x) → choice p s = some r) ∧
      (waits s r = true → (∀ x ∈ order, ¬ overdueWaiting x) → (∀ x ∈ before, waits s x = false) → choice p s = some r)) ∧
    (promoted p s = false → (∀ x ∈ order, waits s x = false) → choice p s = none)) ∧
  (∀ (p : Params) (cmd : PortCommand) (arrival : Time) (s : State), s.station.conf = some p →
    s.report.port = .working (.request cmd arrival) → (p.portPromotion * 1000 : Nat) < timeDiff s.now arrival →
    choice p s = some .port ∧ exec .localGrant s = .next s ∧ exec .lineGrant s = .next s ∧ exec .timerGrant s = .next s) ∧
  (∀ (r : Requester) (s : State), (∀ p, s.station.conf = some p → choice p s ≠ some r) →
    exec (match r with
      | .loc => .localGrant
      | .line => .lineGrant
      | .timer => .timerGrant
      | .port => .portGrant) s = .next s) ∧
  (∀ (p : Params) (cmd : PortCommand) (arrival : Time) (s : State), s.report.port = .working (.request cmd arrival) →
    timeDiff s.now arrival ≤ (p.portPromotion * 1000 : Nat) → promoted p s = false)

/-- The bypass counts (R104) at a grant that leaves the queues of the other requesters as they are: here the grant of a SLOT_READ to
PORT. The count of PORT becomes 0, and that of every other requester that waits rises by 1 up to 15; one that does not wait has 0. At
a LINE grant whose feeder passing withdraws the only due item, the watch of its slot, TIMER stops waiting and its count is 0, also
where the new watch is due at once (R136). -/
def Obligations.GrantRaisesTheCountsOfThosePassedOver : Prop :=
  (∀ (p : Params) (i : SlotNo) (arrival : Time) (s : State), s.station.conf = some p → s.station.haltDue = false →
    s.report.port = .working (.request (.slotRead i) arrival) → choice p s = some .port →
    ∃ t, exec .portGrant s = .next t ∧ t = { s with table := t.table, report := t.report } ∧
      t.table = { s.table with bypass := t.table.bypass } ∧ t.table.bypass.port = 0 ∧
      (∀ r, r ≠ .port → bypassOf t.table.bypass r = if waits s r then min 15 (bypassOf s.table.bypass r + 1) else 0) ∧
      t.report = { s.report with port := .done (.kept ⟨.ok, .slot s.now (slotView s i)⟩) }) ∧
  (∀ (p : Params) (x : IntakeItem) (rest : List IntakeItem) (instant : Option Time) (clock : ClockFlag) (w : Flags) (i : SlotNo)
    (e : Watch) (s : State), s.station.conf = some p → s.station.haltDue = false → choice p s = some .line →
    s.line.intake = x :: rest → x.body = .passing instant clock w → hasFlag w .repeated = false →
    slotFor x.transponder s = some i → s.table.watch = [e] → e.slot = i → s.table.pending = [] →
    (∀ y ∈ s.table.settle, y.due = false) → (∀ y ∈ s.table.trap, y.due = false) →
    (∀ l u, (slotOf s i).last = some l → instant = some u → isBefore u l.instant = false) →
    ∃ t, exec .lineGrant s = .next t ∧ t.table.bypass.timer = 0)

/-- The nine commands of a held kind: in READY, a command that its own tests let through becomes the PORT request, with the station time
as its arrival time, and is answered NOT_READY; nothing else changes (R95, R96, R102, R106, R107, R127, R156, R163, R164). -/
def Obligations.HeldCommandsBecomePortRequests : Prop :=
  ∀ s : State, s.report.port = .ready →
    let held (cmd : PortCommand) : Host.Outcome State Fault Refusal := .next { s with report := { s.report with
      port := .working (.request cmd s.now)
      transaction := some { response := ⟨.notReady, .nothing⟩, frame := [1, 0, 0], collects := false, takes := 0 } } }
    (∀ i : SlotNo, stationState s ≠ .unconfigured → stationState s ≠ .clearing → exec (.slotRead i.val) s = held (.slotRead i)) ∧
    (∀ first count, stationState s ≠ .unconfigured → stationState s ≠ .clearing → first + count ≤ 128 → 1 ≤ count → count ≤ 16 →
      exec (.snapshot first count) s = held (.snapshot first count)) ∧
    (∀ t c, stationState s = .idle ∨ stationState s = .halting → 1 ≤ t → t ≤ 16777214 → c ≤ 9999 →
      exec (.rosterPut t c) s = held (.rosterPut t c)) ∧
    (stationState s = .idle ∨ stationState s = .halting → exec .rosterClear s = held .rosterClear) ∧
    (∀ n, stationState s ≠ .unconfigured → stationState s ≠ .clearing → 1 ≤ n → n ≤ 4294967295 →
      exec (.withdraw n) s = held (.withdraw n)) ∧
    (∀ n (u : Time), stationState s ≠ .unconfigured → stationState s ≠ .clearing → 1 ≤ n → n ≤ 4294967295 →
      exec (.retime n u.toNat) s = held (.retime n u)) ∧
    (∀ t (u : Time), stationState s = .running → 1 ≤ t → t ≤ 16777214 → exec (.mark t u.toNat) s = held (.mark t u)) ∧
    (stationState s = .idle → exec .startSession s = held .startSession) ∧
    (stationState s = .running → exec .halt s = held .halt)

/-- ROSTER_PUT and ROSTER_CLEAR at their grants (R95, R96). ROSTER_PUT: DUPLICATE for a rostered transponder; an unrostered slot of the
transponder is adopted; else the lowest FREE slot becomes ROSTERED with its session parts initial; FULL where no slot is FREE.
ROSTER_CLEAR: every slot is FREE, the entries of the four timed lists are gone, and with them the TIMER queue, the logged passings
have their slots no more (the model's own mark, log entry 43), and the answer is OK with the number of slots freed. -/
def Obligations.RosterGrantsLoadAndClearSlots : Prop :=
  (∀ (transponder competitor : Nat) (s : State),
    (∀ i, slotFor transponder s = some i →
      ((slotOf s i).rostered = true → grantRosterPut transponder competitor s = (⟨.duplicate, .nothing⟩, s)) ∧
      ((slotOf s i).rostered = false → ∃ t, grantRosterPut transponder competitor s = (⟨.ok, .slotNumber i⟩, t) ∧
        t = { s with table := { s.table with slots := t.table.slots } } ∧ (∀ j, j ≠ i → slotOf t j = slotOf s j) ∧
        slotOf t i = { slotOf s i with rostered := true, competitor := competitor })) ∧
    (slotFor transponder s = none →
      (∀ i, (slotOf s i).state = .free → (∀ j, j < i → (slotOf s j).state ≠ .free) →
        ∃ t, grantRosterPut transponder competitor s = (⟨.ok, .slotNumber i⟩, t) ∧
          t = { s with table := { s.table with slots := t.table.slots } } ∧ (∀ j, j ≠ i → slotOf t j = slotOf s j) ∧
          slotOf t i = { Slot.empty with
            state := .rostered, transponder := some transponder, competitor := competitor, rostered := true }) ∧
      ((∀ i, (slotOf s i).state ≠ .free) → grantRosterPut transponder competitor s = (⟨.full, .nothing⟩, s)))) ∧
  (∀ s : State, ∃ t, grantRosterClear s = (⟨.ok, .freed ((List.finRange 128).countP (fun i => (slotOf s i).state != .free))⟩, t) ∧
    t = { s with
      table := { s.table with slots := t.table.slots, pending := [], settle := [], watch := [], trap := [] }
      log := { s.log with places := t.log.places } } ∧
    (∀ i, slotOf t i = Slot.empty) ∧ dueItems t = [] ∧
    ∀ n, logEntry t n = (logEntry s n).map (fun e => { e with released := e.released || e.slot.isSome }))

/-- Reclaim (R98): in OPEN admission, with no FREE slot, the slot given to a new transponder is an unrostered ACTIVE slot idle for ten
minutes with no entry in a timed list, and no such slot was active before it; its contents are discarded and the count rises, and
the passings logged in it have it as their slot no more (the model's own mark, log entry 43). -/
def Obligations.ReclaimTakesTheLongestIdleSlot : Prop :=
  ∀ (transponder : Nat) (i : SlotNo) (s t : State), (∀ j, (slotOf s j).state ≠ .free) → giveSlot transponder s = some (i, t) →
    (slotOf s i).state = .active ∧ (slotOf s i).rostered = false ∧
    (∃ a, (slotOf s i).lastActivity = some a ∧ 600000000 ≤ timeDiff s.now a ∧
      ∀ j b, (slotOf s j).state = .active → (slotOf s j).rostered = false → (slotOf s j).lastActivity = some b →
        600000000 ≤ timeDiff s.now b → (∀ e ∈ s.table.pending, e.slot ≠ j) → (∀ e ∈ s.table.settle, e.slot ≠ j) →
        (∀ e ∈ s.table.watch, e.slot ≠ j) → (∀ e ∈ s.table.trap, e.slot ≠ j) →
        isBefore b a = false ∧ (b = a → i ≤ j)) ∧
    (∀ e ∈ s.table.pending, e.slot ≠ i) ∧ (∀ e ∈ s.table.settle, e.slot ≠ i) ∧ (∀ e ∈ s.table.watch, e.slot ≠ i) ∧
    (∀ e ∈ s.table.trap, e.slot ≠ i) ∧
    t = { s with
      table := { s.table with slots := t.table.slots, reclaimed := countUp s.table.reclaimed }
      log := { s.log with places := t.log.places } } ∧
    (∀ n, logEntry t n = (logEntry s n).map (fun e => { e with released := e.released || decide (e.slot = some i) })) ∧
    (∀ j, j ≠ i → slotOf t j = slotOf s j) ∧
    slotOf t i = { Slot.empty with state := .active, transponder := some transponder, lastActivity := some s.now }

/-- LOCAL_GRANT of a first passing at a lap-line station without feeders (R82, R94, R97, R100, R113, R115, R118): the item leaves the
local passing queue, the lowest FREE slot is given to its transponder and holds the passing, and the passing gives its log entry, a
PASSING record with lap count 0 and a PASSING notice. -/
def Obligations.LocalGrantProcessesAFirstPassing : Prop :=
  ∀ (p : Params) (x : LocalItem) (rest : List LocalItem) (n : Nat) (i : SlotNo) (notices : List Notice) (s : State),
    s.station.conf = some p → s.station.haltDue = false → s.station.mode = .running → choice p s = some .loc →
    s.gather.queue = x :: rest → s.gather.entries = [] → x.number = some n → p.arrangement = .single → p.admission = .anyone →
    p.feeders = [] → p.lapLine = true → slotFor x.transponder s = none →
    (slotOf s i).state = .free → (∀ j, j < i → (slotOf s j).state ≠ .free) → (∀ e ∈ s.table.watch, e.slot ≠ i) →
    s.log.places = [{ number := n, entry := none }] → s.report.fifo.length < 128 → s.line.queue = notices →
    (∀ m ∈ notices, m.cls = .high) → notices.length < 24 →
    ∃ t, exec .localGrant s = .next t ∧
      t = { s with gather := t.gather, table := t.table, log := t.log, report := t.report, line := t.line } ∧
      t.gather = { s.gather with queue := rest } ∧
      (∀ j, j ≠ i → slotOf t j = slotOf s j) ∧
      slotOf t i = { Slot.empty with
        state := .active, transponder := some x.transponder, lastActivity := some s.now,
        last := some { number := n, instant := x.instant, flags := x.flags, span := none, lapCounted := false } } ∧
      t.table = { s.table with slots := t.table.slots, bypass := t.table.bypass } ∧
      t.log = { s.log with places :=
        [{ number := n,
           entry := some { number := n, transponder := x.transponder, slot := some i, instant := x.instant, processed := s.now,
                           flags := x.flags, peak := some x.peak, peakChannel := some x.peakChannel,
                           hitCount := some x.hitCount, lap := none, sector := none, speed := none, withdrawn := false,
                           retimed := false, unsent := none } }] } ∧
      t.report.fifo = s.report.fifo ++
        [{ issued := s.now,
           body := .passing { number := n, slot := some i, transponder := x.transponder, competitor := 0, instant := x.instant,
                              flags := x.flags, peak := some x.peak, peakChannel := some x.peakChannel,
                              hitCount := some x.hitCount, lapCount := some 0 } }] ∧
      t.line.queue = notices ++
        [{ body := .passing n x.transponder x.instant (dropFlag x.flags .untracked), cls := .high, entryTime := s.now,
           collisions := 0, inTransmission := false, followOn := none, leftOver := false }] ∧
      (s.line.state ≠ .listening → t.line = { s.line with queue := t.line.queue })

/-- LINE_GRANT (R94, R100, R121, R124 to R126, R136). A feeder passing whose transponder holds a slot without pending sector, watch,
confidence or later local passing becomes the slot's feeder record: the slot is ACTIVE with its activity now, and the spent feeder is
cleared. A REVISE item acts where its tag stands. Without a slot for its transponder it does nothing. In the feeder record a WITHDRAW
removes it and a RETIME gives it the new instant; in the settle entry it becomes the cause that clears the hold. In the last issued
sector, with its log entry held and not WITHDRAWN, a WITHDRAW takes a value away, and a RETIME recomputes it, with an AMEND SECTOR
record where the value changes; the flags of an AMEND SECTOR without a value are the free value of log entry 14. In each case the item
leaves the intake. -/
def Obligations.LineGrantKeepsTheFeederRecord : Prop :=
  ∀ (p : Params) (x : IntakeItem) (rest : List IntakeItem) (s : State),
    s.station.conf = some p → s.station.haltDue = false → choice p s = some .line → s.line.intake = x :: rest →
    let granted (t : State) : Prop := exec .lineGrant s = .next t ∧
      t = { s with line := { s.line with intake := rest }, table := t.table, log := t.log, report := t.report } ∧
      t.table = { s.table with slots := t.table.slots, settle := t.table.settle, bypass := t.table.bypass }
    let silent (t : State) : Prop := t.log = s.log ∧ t.report = s.report
    let revision : Prop := x.body = .withdraw ∨ ∃ u c, x.body = .retime u c
    (∀ i instant clock w, x.body = .passing instant clock w → hasFlag w .repeated = false → slotFor x.transponder s = some i →
      (∀ e ∈ s.table.pending, e.slot ≠ i) → (∀ e ∈ s.table.watch, e.slot ≠ i) →
      (∀ l u, (slotOf s i).last = some l → instant = some u → isBefore u l.instant = false) →
      (slotOf s i).confidence < p.forecastThreshold →
      ∃ t, granted t ∧ silent t ∧ t.table.settle = s.table.settle ∧ (∀ j, j ≠ i → slotOf t j = slotOf s j) ∧
        slotOf t i = { slotOf s i with
          state := .active, lastActivity := some s.now, spent := none,
          feeder := some { tag := x.tag, instant := instant, clock := clock, flags := w } }) ∧
    (revision → slotFor x.transponder s = none →
      ∃ t, granted t ∧ silent t ∧ t.table.settle = s.table.settle ∧ t.table.slots = s.table.slots) ∧
    (∀ i, revision → slotFor x.transponder s = some i → (∀ f, (slotOf s i).spent = some f → f.tag ≠ x.tag) →
      let stands (z : IssuedSector) : Prop := (slotOf s i).issued = some z ∧ z.tag = some x.tag
      (∀ f, (slotOf s i).feeder = some f → f.tag = x.tag → (slotOf s i).confidence < p.forecastThreshold →
        (∀ e ∈ s.table.watch, e.slot ≠ i) → (∀ e ∈ s.table.settle, e.slot = i → e.tag ≠ x.tag) → (∀ z, ¬ stands z) →
        ∃ t, granted t ∧ silent t ∧ t.table.settle = s.table.settle ∧ (∀ j, j ≠ i → slotOf t j = slotOf s j) ∧
          (x.body = .withdraw → slotOf t i = { slotOf s i with feeder := none }) ∧
          (∀ u c, x.body = .retime u c → slotOf t i = { slotOf s i with feeder := some { f with instant := u, clock := c } })) ∧
      (∀ before e after, (∀ f, (slotOf s i).feeder = some f → f.tag ≠ x.tag) → s.table.settle = before ++ e :: after → e.slot = i →
        e.tag = x.tag → (∀ y ∈ before ++ after, y.slot ≠ i) → (∀ z, ¬ stands z) →
        ∃ t, granted t ∧ silent t ∧ t.table.slots = s.table.slots ∧
          (x.body = .withdraw → t.table.settle = before ++ { e with hold := .withdrawn } :: after) ∧
          (∀ u c, x.body = .retime u c → t.table.settle = before ++ { e with hold := .retimed u c } :: after)) ∧
      (∀ z e, (∀ f, (slotOf s i).feeder = some f → f.tag ≠ x.tag) → (∀ y ∈ s.table.settle, y.slot = i → y.tag ≠ x.tag) →
        stands z → logEntry s z.number = some e → e.withdrawn = false → s.report.fifo.length < 128 →
        let amended (v : Option Nat) (reason : Reason) (w : Flags) (t : State) : Prop :=
          granted t ∧ t.table.settle = s.table.settle ∧ (∀ j, j ≠ i → slotOf t j = slotOf s j) ∧
          slotOf t i = { slotOf s i with issued := some { z with value := v, flags := w } } ∧
          t.report.fifo = s.report.fifo ++
            [{ issued := s.now,
               body := .amend { slot := some i, transponder := ((slotOf s i).transponder).getD 0,
                                competitor := (slotOf s i).competitor, number := z.number,
                                what := .sector (some x.tag) v reason w } }] ∧
          ∃ y, logEntry t z.number = some { e with sector := some y } ∧ y.value = v ∧ y.reason = some reason ∧
            y.tag = some x.tag ∧ y.flags = w ∧ y.amended = true
        let same (t : State) : Prop := granted t ∧ silent t ∧ t.table.settle = s.table.settle ∧ t.table.slots = s.table.slots
        (x.body = .withdraw → z.value ≠ none → ∃ t w, amended none .withdrawn w t) ∧
        (x.body = .withdraw → z.value = none → ∃ t, same t) ∧
        (∀ u c, x.body = .retime (some u) c →
          let v := timeDiff e.instant u
          (0 < v → v ≤ (p.maxSector * 1000 : Nat) → z.value ≠ some v.toNat →
            ∃ t, amended (some v.toNat) .revised
              (sectorFlags (decide (v < (p.minSector * 1000 : Nat))) (decide (c = .soft)) (hasFlag z.flags .forecast)) t) ∧
          (0 < v → v ≤ (p.maxSector * 1000 : Nat) → z.value = some v.toNat → ∃ t, same t) ∧
          (v ≤ 0 ∨ (p.maxSector * 1000 : Nat) < v → z.value ≠ none → ∃ t w, amended none .revisedOut w t) ∧
          (v ≤ 0 ∨ (p.maxSector * 1000 : Nat) < v → z.value = none → ∃ t, same t))))

/-- TIMER_GRANT of a due item that stands alone in the timed lists (R52, R101, R119, R122, R123). A pair wait ends with a SECTOR record,
UNPAIRED with reason NO_FEEDER and no flag. A settle expiry ends with the record of its entry: PAIRED as it stands; recomputed, with
REVISED, where the local or the feeder instant has been retimed and the value is in range; else UNPAIRED, REVISED_OUT with CLOCK_SOFT
and FORECAST as they stand; and UNPAIRED, WITHDRAWN where the feeder passing was withdrawn. The record is the slot's last issued sector
and the log's sector result, and a clean one teaches the forecast. A trap wait ends with an OUT_OF_WINDOW record. -/
def Obligations.TimerGrantEndsThePendingSector : Prop :=
  ∀ (p : Params) (s : State), s.station.conf = some p → s.station.haltDue = false → choice p s = some .timer →
    s.table.watch = [] → s.report.fifo.length < 128 →
    let granted (t : State) : Prop := exec .timerGrant s = .next t ∧
      t = { s with table := t.table, log := t.log, report := t.report } ∧
      t.table = { s.table with slots := t.table.slots, pending := [], settle := [], trap := [], bypass := t.table.bypass }
    (∀ e, s.table.pending = [e] → e.due = true → s.table.settle = [] → s.table.trap = [] →
      ∃ t, granted t ∧ (∀ j, j ≠ e.slot → slotOf t j = slotOf s j) ∧
        slotOf t e.slot = { slotOf s e.slot with
          issued := some { number := e.number, tag := none, value := none, flags := 0 } } ∧
        (∀ x, logEntry s e.number = some x → logEntry t e.number = some { x with
          sector :=
            some { outcome := .unpaired, value := none, reason := some .noFeeder, tag := none, flags := 0, amended := false } }) ∧
        t.report.fifo = s.report.fifo ++
          [{ issued := s.now,
             body := .sector { slot := e.slot, transponder := ((slotOf s e.slot).transponder).getD 0,
                               competitor := (slotOf s e.slot).competitor, number := e.number, instant := e.instant, tag := none,
                               feederInstant := none, outcome := .unpaired, sector := none, reason := some .noFeeder,
                               flags := 0 } }]) ∧
    (∀ e, s.table.settle = [e] → e.due = true → s.table.pending = [] → s.table.trap = [] →
      ∃ t r, granted t ∧ (∀ j, j ≠ e.slot → slotOf t j = slotOf s j) ∧
        slotOf t e.slot = slotAfterSector p r (slotOf s e.slot) ∧
        t.report.fifo = s.report.fifo ++ [{ issued := s.now, body := .sector r }] ∧
        r = { r with
          slot := e.slot, transponder := ((slotOf s e.slot).transponder).getD 0, competitor := (slotOf s e.slot).competitor,
          number := e.number, instant := e.instant, tag := some e.tag } ∧
        (∀ x, logEntry s e.number = some x → logEntry t e.number = some { x with
          sector := some { outcome := r.outcome, value := r.sector, reason := r.reason, tag := r.tag, flags := r.flags,
                           amended := false } }) ∧
        (e.hold = .held → e.retimed = false → r.outcome = .paired ∧ r.sector = some e.sector ∧ r.reason = none ∧
          r.feederInstant = some e.feederInstant ∧ r.flags = e.flags) ∧
        (∀ u soft, (e.hold = .held ∧ e.retimed = true ∧ u = e.feederInstant ∧ soft = hasFlag e.flags .clockSoft) ∨
            (∃ c, e.hold = .retimed (some u) c ∧ soft = decide (c = .soft)) →
          let v := timeDiff e.instant u
          r.feederInstant = some u ∧
          (0 < v → v ≤ (p.maxSector * 1000 : Nat) → r.outcome = .paired ∧ r.sector = some v.toNat ∧ r.reason = none ∧
            r.flags = addFlag (sectorFlags (decide (v < (p.minSector * 1000 : Nat))) soft (hasFlag e.flags .forecast)) .revised) ∧
          (v ≤ 0 ∨ (p.maxSector * 1000 : Nat) < v → r.outcome = .unpaired ∧ r.sector = none ∧ r.reason = some .revisedOut ∧
            r.flags = sectorFlags false soft (hasFlag e.flags .forecast))) ∧
        (e.hold = .withdrawn → r.outcome = .unpaired ∧ r.sector = none ∧ r.reason = some .withdrawn ∧
          r.feederInstant = some e.feederInstant)) ∧
    (∀ w, s.table.trap = [w] → w.due = true → s.table.pending = [] → s.table.settle = [] →
      ∃ t, granted t ∧ t.table.slots = s.table.slots ∧ t.log = s.log ∧
        t.report.fifo = s.report.fifo ++
          [{ issued := s.now,
             body := .speed { slot := w.slot, transponder := ((slotOf s w.slot).transponder).getD 0,
                              competitor := (slotOf s w.slot).competitor, entryNumber := w.number,
                              entryInstant := if w.side = .entry then some w.instant else none,
                              exitInstant := if w.side = .exit then some w.instant else none, delta := none, speed := none,
                              reason := some .outOfWindow, flags := 0,
                              entryFlags := if w.side = .entry then some w.flags else none,
                              exitFlags := if w.side = .exit then some w.flags else none } }])

/-- Every step keeps the station within its capacities: the open-pass table with its stored hits and hit counts, the local passing
queue, the admission filter, the transmit queue with its reserve and its collision counts, the line intake queue, the four timed lists
with at most one entry for each slot in each, the report FIFO, the bypass counts, the lap counts and the counts of the table (R19 to
R21, R24, R33, R48, R76, R77, R79, R80, R89, R93, R104, R109, R111, R112, R135, R153). -/
def Obligations.EveryStepKeepsCapacities : Prop :=
  ∀ s t : State, WithinCapacities s → step s = .next t → WithinCapacities t

/-- Every step keeps the competitor table sound: no transponder in two slots, FREE slots empty, and the timed lists about slots that are
not FREE (R92, R93). -/
def Obligations.EveryStepKeepsTheTableSound : Prop :=
  ∀ s t : State, TableSound s → step s = .next t → TableSound t

/-! ## Chapters 7 and 8: laps, sectors, forecasts, corrections -/

/-- A lap at a lap-line station without feeders (R113 to R115, R118): a loop passing of a slot with a last local passing, at least the
repeat window later, counts one lap; the last and best lap times, the log entry's lap result, and the PASSING and LAP records in
that order follow R115. -/
def Obligations.SecondPassingCountsALap : Prop :=
  ∀ (p : Params) (i : SlotNo) (l : LastPassing) (x : NewPassing) (s : State),
    s.station.conf = some p → p.arrangement = .single → p.lapLine = true → p.feeders = [] → x.kind = .loop →
    slotFor x.transponder s = some i → (slotOf s i).last = some l → l.span = none → hasFlag l.flags .forecast = false →
    hasFlag l.flags .manual = false → hasFlag x.flags .forecast = false → hasFlag x.flags .manual = false →
    (p.repeatWindow * 1000 : Nat) ≤ timeDiff x.instant l.instant → s.log.places = [{ number := x.number, entry := none }] →
    s.report.fifo.length < 127 → s.line.queue.length < 24 →
    let t := processPassing p x s
    let lap := timeDiff x.instant l.instant
    let best : Bool := match (slotOf s i).bestLap with
      | none => true
      | some b => decide (lap < b)
    let count := if (slotOf s i).lapCount < 65535 then (slotOf s i).lapCount + 1 else (slotOf s i).lapCount
    let bestAfter : Int := if best then lap else ((slotOf s i).bestLap).getD lap
    t = { s with table := t.table, log := t.log, report := t.report, line := t.line } ∧
    (∀ j, j ≠ i → slotOf t j = slotOf s j) ∧
    slotOf t i = { slotOf s i with
      state := .active, lastActivity := some s.now, previous := some (l.number, l.instant), spent := none,
      last := some { number := x.number, instant := x.instant, flags := x.flags, span := x.span, lapCounted := true },
      lapCount := count, lastLap := some lap, bestBefore := (slotOf s i).bestLap, bestLap := some bestAfter } ∧
    (∃ e, logEntry t x.number = some e ∧ e.lap = some { count := count, time := lap, best := best } ∧ e.instant = x.instant ∧
      e.flags = x.flags ∧ e.sector = none) ∧
    t.report.fifo = s.report.fifo ++
      [{ issued := s.now,
         body := .passing { number := x.number, slot := some i, transponder := x.transponder,
                            competitor := (slotOf s i).competitor, instant := x.instant, flags := x.flags, peak := x.peak,
                            peakChannel := x.peakChannel, hitCount := x.hitCount, lapCount := some count } },
       { issued := s.now,
         body := .lap { slot := i, transponder := x.transponder, competitor := (slotOf s i).competitor, number := x.number,
                        lapCount := count, lapTime := lap, bestLap := bestAfter, flags := if best then 1024 else 0 } }]

/-- A REPEAT passing (R114): a loop passing less than the repeat window after the last local passing sets the slot's last activity and
changes nothing else in the slots and lists; its log entry and its PASSING record carry REPEAT. -/
def Obligations.RepeatPassingChangesNothingElse : Prop :=
  ∀ (p : Params) (i : SlotNo) (l : LastPassing) (x : NewPassing) (s : State),
    s.station.conf = some p → x.kind = .loop → slotFor x.transponder s = some i → (slotOf s i).last = some l → l.span = none →
    timeDiff x.instant l.instant < (p.repeatWindow * 1000 : Nat) → s.log.places = [{ number := x.number, entry := none }] →
    s.report.fifo.length < 128 → s.line.queue.length < 24 →
    let t := processPassing p x s
    t = { s with table := t.table, log := t.log, report := t.report, line := t.line } ∧
    t.table = { s.table with slots := t.table.slots } ∧ (∀ j, j ≠ i → slotOf t j = slotOf s j) ∧
    slotOf t i = { slotOf s i with state := .active, lastActivity := some s.now } ∧
    (∃ e, logEntry t x.number = some e ∧ e.flags = addFlag x.flags .repeated ∧ e.lap = none ∧ e.sector = none) ∧
    ∃ r, t.report.fifo = s.report.fifo ++ [{ issued := s.now, body := .passing r }] ∧ r.number = x.number ∧
      r.flags = addFlag x.flags .repeated

/-- The two orders of one sector's halves give one sector (R116, R117, R120, R121): a feeder passing with a converted instant, and a
loop passing of the same slot after it within the max sector, leave the same settle entry in whichever order they are granted. Both
grants act at one station time, since a table operation takes none in the model (the model's choice, log entry 26): so the expiry, too,
is the same. -/
def Obligations.EitherOrderGivesTheSameSector : Prop :=
  ∀ (p : Params) (i : SlotNo) (x : NewPassing) (f : FeederRecord) (instant : Time) (s : State),
    s.station.conf = some p → s.station.mode = .running → x.kind = .loop → p.feeders ≠ [] → p.pairWait ≠ 0 → p.settleTime ≠ 0 →
    slotFor x.transponder s = some i → (slotOf s i).last = none → (slotOf s i).feeder = none →
    (slotOf s i).confidence < p.forecastThreshold →
    s.table.pending = [] → s.table.settle = [] → s.table.watch = [] → f.instant = some instant → hasFlag f.flags .repeated = false →
    0 < timeDiff x.instant instant → timeDiff x.instant instant ≤ (p.maxSector * 1000 : Nat) →
    let feederFirst := processPassing p x (takeFeederPassing p x.transponder f s)
    let localFirst := takeFeederPassing p x.transponder f (processPassing p x s)
    ∃ e, feederFirst.table.settle = [e] ∧ localFirst.table.settle = [e] ∧ e.slot = i ∧ e.number = x.number ∧ e.tag = f.tag ∧
      (e.sector : Int) = timeDiff x.instant instant ∧ e.instant = x.instant ∧ e.feederInstant = instant ∧ e.hold = .held ∧
      e.expiry = later s.now (p.settleTime * 1000) ∧ feederFirst.table.pending = [] ∧ localFirst.table.pending = []

/-- The learning of E and c (R134): a sector without SHORT, CLOCK_SOFT and FORECAST becomes E; c rises by 1 up to CMAX where it lies
within E × tol / 256 of a present E, falls by 1 down to 0 where it does not, and stays where E was 0. The others leave both. -/
def Obligations.CleanSectorsTeachTheForecast : Prop :=
  ∀ (p : Params) (r : SectorRec) (v : Nat) (x : Slot), r.outcome = .paired → r.sector = some v →
    let y := slotAfterSector p r x
    (hasFlag r.flags .short = false → hasFlag r.flags .clockSoft = false → hasFlag r.flags .forecast = false →
      y.expected = v ∧
      (x.expected = 0 → y.confidence = x.confidence) ∧
      (x.expected ≠ 0 → ((v : Int) - x.expected).natAbs ≤ x.expected * p.tolerance / 256 →
        y.confidence = min (x.confidence + 1) p.confidenceMax) ∧
      (x.expected ≠ 0 → x.expected * p.tolerance / 256 < ((v : Int) - x.expected).natAbs →
        (y.confidence : Int) = max 0 ((x.confidence : Int) - 1))) ∧
    (hasFlag r.flags .short = true ∨ hasFlag r.flags .clockSoft = true ∨ hasFlag r.flags .forecast = true →
      y.expected = x.expected ∧ y.confidence = x.confidence)

/-- The due of a watch at a station with feeders, whose slot holds the feeder record that armed it (R110, R136, R138, R139, R148). With the
counter EXHAUSTED no passing is made and the watch is removed. With a number to draw, a FORECAST passing of that number stands in the
log and in the slot, at the feeder instant plus E at arming, and the confidence is halved. In RUNNING, with E within the max sector, the
feeder record is consumed and becomes the spent feeder, and a settle entry of E with FORECAST is made. A passing nearer to a forecast
one than half its span replaces it (R141, R142): the forecast passing is withdrawn, the spent feeder is the feeder record again, and
its lap is taken back. -/
def Obligations.WatchDueMakesAForecastPassing : Prop :=
  (∀ (p : Params) (i : SlotNo) (w : Watch) (f : FeederRecord) (instant : Time) (s : State), s.station.conf = some p →
    p.feeders ≠ [] → s.table.watch = [w] → w.slot = i → (slotOf s i).feeder = some f → f.tag = w.tag → f.instant = some instant →
    let t := expireWatch p i s
    t.table.watch = [] ∧
    (s.log.counter = none → t = { s with table := { s.table with watch := [] } }) ∧
    (∀ n, s.log.counter = some n → n < 4294967295 →
      t.log.counter = some (n + 1) ∧ (slotOf t i).lastActivity = (slotOf s i).lastActivity ∧ (∀ j, j ≠ i → slotOf t j = slotOf s j) ∧
      (∃ counted, (slotOf t i).last =
        some { number := n, instant := later instant w.expected, flags := 64, span := some w.expected, lapCounted := counted }) ∧
      (∃ e, logEntry t n = some e ∧ e.instant = later instant w.expected ∧ e.flags = 64 ∧ e.slot = some i ∧
        e.transponder = ((slotOf s i).transponder).getD 0) ∧
      (s.station.mode = .running → 0 < w.expected → w.expected ≤ p.maxSector * 1000 → p.maxSector ≤ 3600000 → p.settleTime ≠ 0 →
        s.table.pending = [] → s.table.settle = [] →
        (slotOf t i).feeder = none ∧ (slotOf t i).spent = some f ∧ (slotOf t i).confidence = (slotOf s i).confidence / 2 ∧
        t.table.pending = [] ∧
        t.table.settle = [{ slot := i, number := n, instant := later instant w.expected, retimed := false, tag := w.tag,
                            feederInstant := instant, sector := w.expected,
                            flags := sectorFlags (decide (w.expected < p.minSector * 1000)) (decide (f.clock = .soft)) true,
                            hold := .held, expiry := later s.now (p.settleTime * 1000), due := false }]))) ∧
  (∀ (p : Params) (i : SlotNo) (x : NewPassing) (l : LastPassing) (span : Nat) (s : State), (slotOf s i).last = some l →
    l.span = some span → hasFlag l.flags .forecast = true →
    let t := replaceForecast p i x s
    (span ≤ 2 * (timeDiff x.instant l.instant).natAbs → t = s) ∧
    (2 * (timeDiff x.instant l.instant).natAbs < span →
      (s.table.pending.map (·.slot)).Nodup → (s.table.settle.map (·.slot)).Nodup →
      t = { s with table := t.table, log := t.log, report := t.report, line := t.line } ∧
      (∀ j, j ≠ i → slotOf t j = slotOf s j) ∧
      (∀ e, logEntry s l.number = some e → ∃ e', logEntry t l.number = some e' ∧ e'.withdrawn = true) ∧
      (∀ e ∈ t.table.pending, e.slot = i → e.number ≠ l.number) ∧ (∀ e ∈ t.table.settle, e.slot = i → e.number ≠ l.number) ∧
      (slotOf t i).feeder = (if (slotOf s i).spent = none then (slotOf s i).feeder else (slotOf s i).spent) ∧
      (slotOf t i).spent = none ∧ (slotOf t i).previous = none ∧
      ((slotOf t i).last.map (fun k => (k.number, k.instant))) = (slotOf s i).previous ∧
      (slotOf t i).lapCount = (if l.lapCounted then (slotOf s i).lapCount - 1 else (slotOf s i).lapCount) ∧
      (slotOf t i).bestLap = (if l.lapCounted then (slotOf s i).bestBefore else (slotOf s i).bestLap) ∧
      (slotOf t i).lastLap = (if l.lapCounted then none else (slotOf s i).lastLap)))

/-- Host corrections at their grants and the revisions they offer to the line (R83, R84, R127 to R130, R148). WITHDRAW and RETIME answer
by the log. An accepted WITHDRAW marks the log entry; in a slot it takes back the lap, and the pending and settle entries of the passing
end; without a slot one AMEND PASSING record is issued, with the slot absent and competitor 0 (the model's reading, log entry 17), and the
table stays, as it does where the slot has been cleared or reclaimed since, even if the same transponder holds it again (the model's
reading, log entry 43). An accepted RETIME gives the new instant and RETIMED to the log entry, the slot's last passing and the passing's pending
and settle entries. MARK draws a number and makes a MANUAL passing. Refused corrections change nothing. A revision keeps or clears an
UNSENT mark, changes or removes a waiting notice, becomes the follow-on of one in transmission, and else is a REVISE notice at the
tail of the High class, or an UNSENT mark where the queue is full. -/
def Obligations.CorrectionsFollowTheLog : Prop :=
  (∀ (p : Params) (n : Nat) (s : State),
    (∀ e, logEntry s n = some e → e.withdrawn = true → grantWithdraw p n s = (⟨.refusedState, .nothing⟩, s)) ∧
    (logEntry s n = none → (∃ k, latestDrawn s.log = some k ∧ n + 2048 ≤ k) → grantWithdraw p n s = (⟨.gone, .nothing⟩, s)) ∧
    (logEntry s n = none → (∀ k, latestDrawn s.log = some k → k < n + 2048) → grantWithdraw p n s = (⟨.notYet, .nothing⟩, s)) ∧
    (∀ e, logEntry s n = some e → e.number = n → e.withdrawn = false → e.slot = none → e.unsent = none →
      s.line.queue.any (refersTo n) = false → s.line.queue.length < 24 → s.report.fifo.length < 128 →
      ∃ t, grantWithdraw p n s = (⟨.ok, .nothing⟩, t) ∧ t = { s with log := t.log, report := t.report, line := t.line } ∧
        logEntry t n = some { e with withdrawn := true } ∧
        t.report.fifo = s.report.fifo ++
          [{ issued := s.now,
             body := .amend { slot := none, transponder := e.transponder, competitor := 0, number := n, what := .withdrawn } }]) ∧
    (∀ e, logEntry s n = some e → e.withdrawn = false → e.released = true →
      (∃ t, grantWithdraw p n s = (⟨.ok, .nothing⟩, t) ∧ t = { s with log := t.log, report := t.report, line := t.line } ∧
        ∃ e', logEntry t n = some e' ∧ e'.withdrawn = true) ∧
      ∀ u, grantRetime p n u s = (⟨.refusedState, .nothing⟩, s)) ∧
    (∀ e i, logEntry s n = some e → e.withdrawn = false → slotOfPassing s e = some i →
      (s.table.pending.map (·.slot)).Nodup → (s.table.settle.map (·.slot)).Nodup →
      ∃ t, grantWithdraw p n s = (⟨.ok, .nothing⟩, t) ∧
        t = { s with table := t.table, log := t.log, report := t.report, line := t.line } ∧
        (∃ e', logEntry t n = some e' ∧ e'.withdrawn = true) ∧ (∀ j, j ≠ i → slotOf t j = slotOf s j) ∧
        (slotOf t i).lapCount = (if e.lap.isSome then (slotOf s i).lapCount - 1 else (slotOf s i).lapCount) ∧
        (∀ x ∈ t.table.pending, x.slot = i → x.number ≠ n) ∧ (∀ x ∈ t.table.settle, x.slot = i → x.number ≠ n) ∧
        ((slotOf s i).last.map (·.number) = some n →
          ((slotOf t i).last.map (fun k => (k.number, k.instant))) = (slotOf s i).previous ∧ (slotOf t i).previous = none ∧
          (slotOf t i).bestLap = (if e.lap.isSome then (slotOf s i).bestBefore else (slotOf s i).bestLap)) ∧
        ((slotOf s i).last.map (·.number) ≠ some n →
          (slotOf t i).last = (slotOf s i).last ∧ (slotOf t i).bestLap = (slotOf s i).bestLap))) ∧
  (∀ (p : Params) (n transponder : Nat) (u : Time) (s : State),
    (∀ e, logEntry s n = some e → e.withdrawn = true ∨ e.slot = none → grantRetime p n u s = (⟨.refusedState, .nothing⟩, s)) ∧
    (∀ e i l, logEntry s n = some e → e.withdrawn = false → slotOfPassing s e = some i → (slotOf s i).last = some l →
      l.number = n → hasFlag l.flags .forecast = false →
      (isBefore s.now u = true → grantRetime p n u s = (⟨.badArgument, .nothing⟩, s)) ∧
      (isBefore s.now u = false → (∀ k v, (slotOf s i).previous = some (k, v) → isBefore v u = true) →
        ∃ t, grantRetime p n u s = (⟨.ok, .nothing⟩, t) ∧
          t = { s with table := t.table, log := t.log, report := t.report, line := t.line } ∧
          (∃ e', logEntry t n = some e' ∧ e'.instant = u ∧ e'.retimed = true ∧ e'.withdrawn = false) ∧
          (∀ j, j ≠ i → slotOf t j = slotOf s j) ∧
          (slotOf t i).last = some { l with instant := u, flags := l.flags ||| 256 } ∧
          (slotOf t i).lapCount = (slotOf s i).lapCount ∧ (slotOf t i).previous = (slotOf s i).previous ∧
          (∀ k v, e.lap ≠ none → (slotOf s i).previous = some (k, v) → (slotOf t i).lastLap = some (timeDiff u v)) ∧
          t.table.pending = s.table.pending.map (fun y => if y.slot = i ∧ y.number = n then { y with instant := u } else y) ∧
          t.table.settle = s.table.settle.map
            (fun y => if y.slot = i ∧ y.number = n then { y with instant := u, retimed := true } else y))) ∧
    (isBefore s.now u = true → grantMark p transponder u s = (⟨.badArgument, .nothing⟩, s)) ∧
    (isBefore s.now u = false → slotFor transponder s = none → s.log.counter = none →
      grantMark p transponder u s = (⟨.refusedState, .nothing⟩, s)) ∧
    (∀ i k, isBefore s.now u = false → slotFor transponder s = some i →
      (∀ l, (slotOf s i).last = some l → isBefore l.instant u = true) → s.log.counter = some k → k < 4294967295 →
      ∃ t, grantMark p transponder u s = (⟨.ok, .passingNumber k⟩, t) ∧
        t = { s with table := t.table, log := t.log, report := t.report, line := t.line } ∧ t.log.counter = some (k + 1) ∧
        (∃ e, logEntry t k = some e ∧ e.instant = u ∧ e.flags = 128 ∧ e.slot = some i ∧ e.transponder = transponder ∧
          e.peak = none ∧ e.hitCount = none) ∧
        (slotOf t i).lastActivity = some s.now ∧
        (slotOf t i).last.map (fun l => (l.number, l.instant, l.flags, l.span)) = some (k, u, 128, none))) ∧
  (∀ (x transponder : Nat) (r : Revision) (s : State),
    let t := offerRevision x transponder r s
    (∀ e o, logEntry s x = some e → e.unsent = some o →
      t = { s with log := t.log } ∧ (o = .passing → r = .withdraw → logEntry t x = some { e with unsent := none }) ∧
        (o = .revise ∨ r ≠ .withdraw → t = s)) ∧
    ((∀ e, logEntry s x = some e → e.unsent = none) →
      (∀ before n after, s.line.queue = before ++ n :: after → refersTo x n = true → (∀ m ∈ before, refersTo x m = false) →
        (n.inTransmission = true → t = { s with line := { s.line with queue := before ++ { n with followOn := some r } :: after } }) ∧
        (∀ tr i w v, n.inTransmission = false → n.body = .passing x tr i w → r = .retime v →
          t = { s with line := { s.line with queue :=
            before ++ { n with body := .passing x tr v (addFlag w .retimed) } :: after } }) ∧
        (∀ tr a, n.inTransmission = false → n.body = .revise x tr a →
          t = { s with line := { s.line with queue := before ++ { n with body := .revise x tr r } :: after } }) ∧
        (∀ tr i w, n.inTransmission = false → n.body = .passing x tr i w → r = .withdraw → unsentCount s = 0 →
          t = { s with line := t.line } ∧ t.line.queue = before ++ after)) ∧
      ((∀ m ∈ s.line.queue, refersTo x m = false) →
        (∀ high low, s.line.queue = high ++ low → (∀ m ∈ high, m.cls = .high) → (∀ m ∈ low, m.cls ≠ .high) →
          s.line.queue.length < 24 →
          t = { s with line := t.line } ∧ t.line.queue = high ++
            { body := .revise x transponder r, cls := .high, entryTime := s.now, collisions := 0, inTransmission := false,
              followOn := none, leftOver := false } :: low) ∧
        (24 ≤ s.line.queue.length → ∀ e, logEntry s x = some e →
          t = { s with log := t.log } ∧ logEntry t x = some { e with unsent := some .revise }))))

/-- Every step keeps the timed lists and the line intake queue empty outside RUNNING (R54, R90, R131, R145, R163). -/
def Obligations.EveryStepKeepsTimedListsToRunning : Prop :=
  ∀ s t : State, TimedOnlyInRunning s → step s = .next t → TimedOnlyInRunning t

/-! ## Chapter 9: the log, the report FIFO and the port -/

/-- Every step keeps the passing log sound: the counter in range or EXHAUSTED, and each place of the ring among the last 2048 numbers drawn
and holding the entry of its own number (R147, R149). -/
def Obligations.EveryStepKeepsTheLogSound : Prop :=
  ∀ s t : State, LogSound s → step s = .next t → LogSound t

/-- Every step keeps ATTN asserted while a fault is held, the overrun capture is locked or the FIFO threshold is reached, and never asserts
it without one of these or a record that waits in a configured station (R155). -/
def Obligations.EveryStepKeepsAttnSound : Prop :=
  ∀ s t : State, AttnSound s → step s = .next t → AttnSound t

/-- A record offered (R153 to R155): it enters the tail of a FIFO of fewer than 128 and ends the wait of a held REPORT_READ; a full FIFO
discards it, and the overrun capture locks with its kind, number and issue time, or sets MORE_LOST. OVERRUN_CLEAR answers the capture
and unlocks it. ATTENTION_AGE_EXPIRY asserts ATTN when the head record has reached the attention age. -/
def Obligations.RecordsEnterTheFifoOrLockTheCapture : Prop :=
  ∀ (b : RecordBody) (s : State),
    (s.report.fifo.length < 128 → ∃ attn, offerRecord b s = { s with report := { s.report with
      fifo := s.report.fifo ++ [{ issued := s.now, body := b }]
      port := match s.report.port with
        | .working (.report count _) => .done (.atPoll count)
        | x => x
      attn := attn } }) ∧
    (128 ≤ s.report.fifo.length → offerRecord b s = { s with report := { s.report with
      overrun := some (match s.report.overrun with
        | none => { kind := recordKind b, number := recordNumber b, issued := s.now, moreLost := false }
        | some c => { c with moreLost := true })
      attn := true } }) ∧
    (∃ attn, exec .overrunClear s = .next { s with report := { s.report with
      overrun := none
      attn := attn
      transaction := some
        { response := ⟨.ok, .overrun s.report.overrun⟩, frame := responseFrame ⟨.ok, .overrun s.report.overrun⟩,
          collects := false, takes := 0 } } }) ∧
    (∀ p r rest, s.station.conf = some p → s.report.fifo = r :: rest → (p.attentionAge * 1000 : Nat) ≤ timeDiff s.now r.issued →
      exec .attentionAgeExpiry s = .next { s with report := { s.report with attn := true } })

/-- REPORT_READ and READ_TIMER_EXPIRY (R156, R157). In WORKING and DONE the command is answered BUSY, and in READY with a count outside
1..8 BAD_ARGUMENT. Else, with records in the FIFO the oldest, up to the count, are the answer, and they leave at the delivery of the
response; an empty FIFO is answered EMPTY in IMMEDIATE mode and in UNCONFIGURED, and in WAIT mode the command is held with its read
timer, in CLEARING as in the other states (the model's choice, log entry 41). The expiry of the read timer makes the response EMPTY. -/
def Obligations.ReportReadTakesTheOldestRecords : Prop :=
  ∀ (count : Nat) (s : State),
    (s.report.port ≠ .ready → ∃ t, exec (.reportRead count) s = .next t ∧ Answered ⟨.busy, .nothing⟩ s t) ∧
    (s.report.port = .ready → count = 0 ∨ 8 < count →
      ∃ t, exec (.reportRead count) s = .next t ∧ Answered ⟨.badArgument, .nothing⟩ s t) ∧
    (1 ≤ count → count ≤ 8 →
      (s.report.port = .ready → s.report.fifo ≠ [] →
        let r : Response := ⟨.ok, .records (s.report.fifo.length - min count s.report.fifo.length) s.report.overrun.isSome
          (s.report.fifo.take count)⟩
        exec (.reportRead count) s = .next { s with report := { s.report with
          transaction := some
            { response := r, frame := responseFrame r, collects := false, takes := min count s.report.fifo.length } } }) ∧
      (s.report.port = .ready → s.report.fifo = [] → (∀ p, s.station.conf = some p → p.readMode = .immediate) →
        ∃ t, exec (.reportRead count) s = .next t ∧ Answered ⟨.empty, .records 0 s.report.overrun.isSome []⟩ s t) ∧
      (∀ p, s.report.port = .ready → s.report.fifo = [] → s.station.conf = some p → p.readMode = .wait →
        exec (.reportRead count) s = .next { s with report := { s.report with
          port := .working (.report count (later s.now (p.readTimeout * 1000)))
          transaction := some { response := ⟨.notReady, .nothing⟩, frame := [1, 0, 0], collects := false, takes := 0 } } }) ∧
      (∀ due, s.report.port = .working (.report count due) → reached due s.now = true →
        exec .readTimerExpiry s = .next { s with report := { s.report with
          port := .done (.kept ⟨.empty, .records s.report.fifo.length s.report.overrun.isSome []⟩) } }))

/-- POLL, RESPONSE_DELIVERED, DESELECT and UNKNOWN_COMMAND (R156, R157, R171). A poll is answered REFUSED_STATE in READY, NOT_READY in
WORKING, and in DONE with the made response, whose records are taken as the FIFO stands at the poll. Delivery shifts out the code byte,
takes the records of the response from the FIFO and, after a poll that collects, leaves the port READY; a deselection leaves both as
they are, and loses the bytes that have not been clocked out. On the bytes clocked after a request the port sends what is left of the
response, and 0xFF after that. -/
def Obligations.PollsCollectAndDeliveryTakes : Prop :=
  ∀ s : State,
    (s.report.port = .ready → ∃ t, exec .poll s = .next t ∧ Answered ⟨.refusedState, .nothing⟩ s t) ∧
    (∀ h, s.report.port = .working h → ∃ t, exec .poll s = .next t ∧ Answered ⟨.notReady, .nothing⟩ s t) ∧
    (∀ r, s.report.port = .done (.kept r) → exec .poll s = .next { s with report := { s.report with
      transaction := some { response := r, frame := responseFrame r, collects := true, takes := 0 } } }) ∧
    (∀ count, s.report.port = .done (.atPoll count) →
      let k := min count s.report.fifo.length
      let r : Response := ⟨.ok, .records (s.report.fifo.length - k) s.report.overrun.isSome (s.report.fifo.take k)⟩
      exec .poll s = .next { s with report := { s.report with
        transaction := some { response := r, frame := responseFrame r, collects := true, takes := k } } }) ∧
    (∀ x, s.report.transaction = some x → x.delivered = false →
      ∃ attn, exec .responseDelivered s = .next { s with report := { s.report with
        fifo := s.report.fifo.drop x.takes
        port := if x.collects then .ready else s.report.port
        transaction := some { x with frame := x.frame.tail, delivered := true }
        attn := attn } }) ∧
    exec .deselect s = .next { s with report := { s.report with transaction := none } } ∧
    (∀ x n, s.report.transaction = some x →
      sentAfterRequest s n = x.frame.take n ++ List.replicate (n - x.frame.length) 0xFF) ∧
    (∀ n, s.report.transaction = none → sentAfterRequest s n = List.replicate n 0xFF) ∧
    (∀ code length, 21 ≤ code ∨ argLength code ≠ some length →
      ∃ t, exec (.unknownCommand code length) s = .next t ∧ Answered ⟨.unknownCommand, .nothing⟩ s t)

/-- LOG_READ and STATUS_READ (R40, R91, R109, R146, R152, R166). LOG_READ answers one item for each number from the first: PRESENT with the
entry, GONE for a number at most the latest drawn less 2048, else NOT_YET; BAD_ARGUMENT outside its ranges. STATUS_READ answers every
value as it stands and clears the four sticky flags. The kind of the head notice is counted from 1 in the order PASSING, REVISE, TIME,
STATUS, and the arbiter mode is absent in UNCONFIGURED (the model's readings, log entries 19 and 33). -/
def Obligations.LogAndStatusReadsShowTheStation : Prop :=
  ∀ s : State,
    (∀ first count, 1 ≤ first → 1 ≤ count → count ≤ 32 → first + count ≤ 4294967296 →
      ∃ t, exec (.logRead first count) s = .next t ∧ Answered ⟨.ok, .log s.now (latestDrawn s.log) ((List.range count).map fun j =>
        match logEntry s (first + j), latestDrawn s.log with
        | some e, _ => .present e
        | none, none => .notYet (first + j)
        | none, some k => if first + j + 2048 ≤ k then .gone (first + j) else .notYet (first + j))⟩ s t) ∧
    (∀ first count, first = 0 ∨ count = 0 ∨ 32 < count ∨ 4294967296 < first + count →
      ∃ t, exec (.logRead first count) s = .next t ∧ Answered ⟨.badArgument, .nothing⟩ s t) ∧
    (∃ v : StatusView, exec .statusRead s = .next { s with
        station := { s.station with clamped := false }
        gather := { s.gather with crowded := false }
        line := { s.line with overrun := false }
        table := { s.table with watchFull := false }
        report := { s.report with
          transaction := some
            { response := ⟨.ok, .status v⟩, frame := responseFrame ⟨.ok, .status v⟩, collects := false, takes := 0 } } } ∧
      v.crowded = s.gather.crowded ∧ v.lineOverrun = s.line.overrun ∧ v.watchFull = s.table.watchFull ∧
      v.clamped = s.station.clamped ∧ v.state = stationState s ∧ v.time = s.now ∧
      (∀ ch, ofChannel v.channels ch = { isOn := channelOn s ch, guard := (guardOf s ch).state, high := (guardOf s ch).high }) ∧
      v.nOpen = s.gather.entries.countP (fun e => decide (e.state = .opened)) ∧
      v.nParked = s.gather.entries.countP (fun e => decide (e.state = .parked)) ∧
      v.nClosing = s.gather.entries.countP (fun e => decide (e.state = .closing)) ∧
      v.nLocal = s.gather.queue.length ∧ v.line = s.line.state ∧
      (let kind (n : Notice) : Nat := match n.body with
        | .passing .. => 1
        | .revise .. => 2
        | .time => 3
        | .status _ => 4
      v.nPassing = s.line.queue.countP (fun n => kind n == 1) ∧ v.nRevise = s.line.queue.countP (fun n => kind n == 2) ∧
      v.nTime = s.line.queue.countP (fun n => kind n == 3) ∧ v.nStatus = s.line.queue.countP (fun n => kind n == 4) ∧
      (s.line.queue = [] → v.head = none) ∧
      (∀ n, s.line.queue.find? (·.inTransmission) = some n → v.head = some (kind n, n.collisions)) ∧
      (∀ n rest, s.line.queue = n :: rest → (∀ m ∈ s.line.queue, m.inTransmission = false) → v.head = some (kind n, n.collisions))) ∧
      v.nIntake = s.line.intake.length ∧ v.nUnsent = unsentCount s ∧
      v.nFree = (List.finRange 128).countP (fun i => decide ((slotOf s i).state = .free)) ∧
      v.nRosteredState = (List.finRange 128).countP (fun i => decide ((slotOf s i).state = .rostered)) ∧
      v.nActive = (List.finRange 128).countP (fun i => decide ((slotOf s i).state = .active)) ∧
      v.nRosteredFlag = (List.finRange 128).countP (fun i => (slotOf s i).rostered) ∧
      v.arbiterMode = s.station.conf.map (·.arbiterMode) ∧ v.bypass = s.table.bypass ∧
      (v.localWaiting = true ↔ s.gather.queue ≠ []) ∧ (v.lineWaiting = true ↔ s.line.intake ≠ []) ∧
      (v.timerWaiting = true ↔ dueItems s ≠ []) ∧
      (v.portWaiting = true ↔ ∃ cmd arrival, s.report.port = .working (.request cmd arrival)) ∧
      v.reclaimed = s.table.reclaimed ∧ v.untracked = s.table.untracked ∧ v.dropped = s.table.dropped ∧
      v.nWatches = s.table.watch.length ∧ v.nRecords = s.report.fifo.length ∧ v.latest = latestDrawn s.log ∧
      v.overrunLocked = s.report.overrun.isSome ∧ v.faultLocked = s.station.fault.isSome)

/-! ## Chapters 10 and 11: station control and request frames -/

/-- CONFIGURE (R17, R58, R69, R160). Outside UNCONFIGURED it is refused, and with arguments that R160 does not take it is BAD_ARGUMENT,
with nothing taken. Else it is answered OK and the values in force are those asked where these are in range, and the nearer end
otherwise, the filter width the nearest of 2, 4 and 8 ms and the greater of two equally near; CLAMPED is set where a value was clamped.
The station is IDLE, the guards of the channels that come on are sampled, and the next STATUS offer falls in 1 s. With an empty transmit
queue one TIME and one STATUS notice enter it, in this order (the model's reading, log entry 35). -/
def Obligations.ConfigureTakesTheClampedValues : Prop :=
  ∀ (a : ConfigArgs) (levels : PerChannel Nat) (s : State),
    let taken : Prop := 1 ≤ a.stationNumber ∧ a.stationNumber ≤ 31 ∧
      (∀ f ∈ [a.feeder1, a.feeder2, a.feeder3], f ≤ 31 ∧ f ≠ a.stationNumber) ∧
      (a.feeder1 ≠ 0 → a.feeder1 ≠ a.feeder2 ∧ a.feeder1 ≠ a.feeder3) ∧ (a.feeder2 ≠ 0 → a.feeder2 ≠ a.feeder3) ∧
      (a.arrangement, a.splitMask) ∈ [(1, 0), (2, 0), (3, 1), (3, 2)] ∧ a.lapLine ∈ [1, 2] ∧
      (∀ ch, (ofChannel a.channels ch).guardMode ∈ [1, 2]) ∧ a.admission ∈ [1, 2] ∧ a.arbiterMode ∈ [1, 2] ∧
      a.readMode ∈ [1, 2]
    (s.station.conf ≠ none → ∃ t, exec (.configure a levels) s = .next t ∧ Answered ⟨.refusedState, .nothing⟩ s t) ∧
    (s.station.conf = none → ¬ taken → ∃ t, exec (.configure a levels) s = .next t ∧ Answered ⟨.badArgument, .nothing⟩ s t) ∧
    (s.station.conf = none → taken →
      ∃ t p, exec (.configure a levels) s = .next t ∧
        t = { s with station := t.station, channels := t.channels, clock := t.clock, line := t.line, report := t.report } ∧
        (∃ asked, readParams a = some asked ∧ AskedBy a asked ∧ p = clampParams asked ∧ NearerEnds asked p ∧ ParamsInRange p ∧
          (ParamsInRange asked ↔ p = asked) ∧
          t.station = { s.station with
            conf := some p, mode := .idle, clamped := if p = asked then s.station.clamped else true }) ∧
        t.channels.held = s.channels.held ∧ t.channels.resetAt = s.channels.resetAt ∧
        (∀ ch, guardOf t ch =
          if ch ∈ channelsOf p.arrangement then
            if (ofChannel p.channels ch).guardLevel ≤ ofChannel levels ch then
              { Guard.initial with
                high := true, state := .watching
                filterDue := some (later s.now ((ofChannel p.channels ch).filterWidth * 1000)) }
            else Guard.initial
          else guardOf s ch) ∧
        t.clock.peers = s.clock.peers ∧ t.clock.statusDue = some (later s.now 1000000) ∧
        t.report = { s.report with
          attn := t.report.attn
          transaction := some { response := ⟨.ok, .nothing⟩, frame := [0, 0, 0], collects := false, takes := 0 } } ∧
        (s.line.queue = [] → t.clock.timeDue = none ∧
          ∃ m n f, t.line.queue = [m, n] ∧ m.body = .time ∧ n.body = .status f ∧ f.stationState = 2 ∧ m.cls = .middle ∧
            n.cls = .low ∧ m.entryTime = s.now ∧ n.entryTime = s.now))

/-- CONFIG_READ (R161): REFUSED_STATE in UNCONFIGURED; in the other states OK with every parameter as held after clamping and the present
state of CLAMPED, which it does not clear. -/
def Obligations.ConfigReadReturnsTheParameters : Prop :=
  ∀ s : State, ∃ t, exec .configRead s = .next t ∧ t.station = s.station ∧
    (s.station.conf = none → AnsweredWith ⟨.refusedState, .nothing⟩ s t) ∧
    (∀ p, s.station.conf = some p → AnsweredWith ⟨.ok, .config p s.station.clamped⟩ s t)

/-- FAULT_READ and FAULT_CLEAR (R168): each is answered OK with the capture as it stood, in every state. FAULT_READ changes nothing.
FAULT_CLEAR unlocks the capture. Of a fault and a FAULT_CLEAR that come together, a fault taken first is in the response, itself or as
LOST, and a fault taken after locks the capture anew. -/
def Obligations.FaultClearAnswersAndUnlocks : Prop :=
  ∀ s : State,
    (∃ t, exec .faultRead s = .next t ∧ AnsweredWith ⟨.ok, .fault s.station.fault⟩ s t) ∧
    (∃ t frame, exec .faultClear s = .next t ∧
      t = { s with
        station := { s.station with fault := none }
        report := { s.report with
          attn := t.report.attn
          transaction := some { response := ⟨.ok, .fault s.station.fault⟩, frame := frame, collects := false, takes := 0 } } } ∧
      ∀ code detail, (offerFault code detail t).station.fault =
        some { code := code, time := s.now, detail := detail, lost := false }) ∧
    (∀ code detail, ∃ t c, exec .faultClear (offerFault code detail s) = .next t ∧ t.station.fault = none ∧
      t.report.transaction.map (·.response) = some ⟨.ok, .fault (some c)⟩ ∧
      (s.station.fault = none → c = { code := code, time := s.now, detail := detail, lost := false }) ∧
      (∀ f, s.station.fault = some f → c = { f with lost := true }))

/-- START_SESSION at its grant, and CLEARING_END (R21, R38, R90, R108, R158, R159, R163). CLEARING lasts 2,000 µs. Rostered slots keep
their identity and every other slot is FREE; lists, counts, passes, local queue, intake, log and FIFO are empty or 0, the counter is 1,
the overrun capture is unlocked, and the admission filter holds the rostered transponders. TIME and STATUS notices stay, and no PASSING
or REVISE notice but one in transmission, without its follow-on. Guards, peers, the fault, the flags and the configuration are kept. -/
def Obligations.StartSessionClearsTheSession : Prop :=
  ∀ s : State,
    (∃ t, grantStartSession s = (⟨.ok, .nothing⟩, t) ∧
      t = { s with station := t.station, gather := t.gather, line := t.line, table := t.table, log := t.log,
                   report := t.report } ∧
      t.station = { s.station with mode := .clearing, clearingDue := some (later s.now 2000) } ∧
      (∀ i, slotOf t i = if (slotOf s i).rostered then
          { Slot.empty with
            state := .rostered, transponder := (slotOf s i).transponder, competitor := (slotOf s i).competitor, rostered := true }
        else Slot.empty) ∧
      t.table = { TableBlock.initial with slots := t.table.slots, watchFull := s.table.watchFull } ∧
      t.gather = { s.gather with entries := [], queue := [], filter := t.gather.filter } ∧
      (∀ x, x ∈ t.gather.filter ↔ ∃ i, (slotOf s i).rostered = true ∧ (slotOf s i).transponder = some x) ∧
      t.line.intake = [] ∧ t.line.overrun = s.line.overrun ∧
      t.line.queue.filter isTimed = s.line.queue.filter isTimed ∧
      (∀ n ∈ t.line.queue, isTimed n = false → n.inTransmission = true ∧ n.followOn = none ∧ n.leftOver = true) ∧
      t.log = { counter := some 1, places := [] } ∧
      t.report = { s.report with fifo := [], overrun := none, attn := s.station.fault.isSome || t.report.attn }) ∧
    (∀ p d, s.station.conf = some p → s.station.mode = .clearing → s.station.clearingDue = some d → reached d s.now = true →
      exec .clearingEnd s = .next { s with station := { s.station with mode := .running, clearingDue := none } })

/-- HALT, by the PORT grant of a host HALT and by STATION_HALT when station control owes one (R37, R54, R90, R131, R145, R159, R164, R165).
The four timed lists and the intake are empty; what is left in the open-pass table are closings of the timing group without parking
mark, and the station is HALTING while there are any and IDLE otherwise. Guards and peers are kept. The host's HALT is answered OK;
STATION_HALT makes no response, changes no bypass count, and leaves the port as it is, but for a REPORT_READ that a record ends; a
host HALT keeps the counts as its grant left them (the model's choice where R104 and R108 differ, log entry 37). -/
def Obligations.HaltEndsTheSession : Prop :=
  ∀ (p : Params) (s : State), s.station.conf = some p → s.station.mode = .running →
    let halted (t : State) : Prop :=
      t = { s with station := t.station, gather := t.gather, line := t.line, table := t.table, log := t.log, report := t.report } ∧
      t.table.pending = [] ∧ t.table.settle = [] ∧ t.table.watch = [] ∧ t.table.trap = [] ∧ t.line = { s.line with intake := [] } ∧
      (∀ e ∈ t.gather.entries, e.state = .closing ∧ e.key.group = .timing ∧ e.parkMark = false) ∧
      t.station.mode = (if t.gather.entries = [] then .idle else .halting) ∧ t.station.conf = s.station.conf ∧
      t.station.haltDue = false
    (∀ arrival, s.station.haltDue = false → s.report.port = .working (.request .halt arrival) → choice p s = some .port →
      ∃ t, exec .portGrant s = .next t ∧ halted t ∧ t.report.port = .done (.kept ⟨.ok, .nothing⟩) ∧
        ∀ r, bypassOf t.table.bypass r = if r ≠ .port ∧ waits s r then min 15 (bypassOf s.table.bypass r + 1) else 0) ∧
    (s.station.haltDue = true →
      ∃ t, exec .stationHalt s = .next t ∧ halted t ∧ t.table.bypass = s.table.bypass ∧
        ((∀ count due, s.report.port ≠ .working (.report count due)) → t.report.port = s.report.port) ∧
        t.report.transaction = s.report.transaction)

/-- A request frame of the port gives back the command it was made from, with every argument as it was, for every command, the poll and
the requests that name no command, and every value the argument widths admit (11.3, R171, R172). -/
def Obligations.RequestFramesDecodeToTheirCommands : Prop :=
  ∀ (c : Instr) (levels : PerChannel Nat) (frame : List Byte), c.wellFormed = true →
    (∀ a l, c = .configure a l → l = levels) → encodeRequest c = some frame → decodeRequest levels frame = some c
end

