-- ==== Sys2Proof/Laws/State.lean ====
section
/-! SUPPORT. What each named update leaves in each field of the state: one lemma for each field, true by `rfl`. -/

namespace Sys2Proof.Machine

variable (s : State)

/-! ## Registers by number -/

@[simp] theorem setGuard_pending (ch : Channel) (g : Guard) : (setGuard ch g s).pending = s.pending := rfl
@[simp] theorem setGuard_now (ch : Channel) (g : Guard) : (setGuard ch g s).now = s.now := rfl
@[simp] theorem setGuard_station (ch : Channel) (g : Guard) : (setGuard ch g s).station = s.station := rfl
@[simp] theorem setGuard_gather (ch : Channel) (g : Guard) : (setGuard ch g s).gather = s.gather := rfl
@[simp] theorem setGuard_clock (ch : Channel) (g : Guard) : (setGuard ch g s).clock = s.clock := rfl
@[simp] theorem setGuard_line (ch : Channel) (g : Guard) : (setGuard ch g s).line = s.line := rfl
@[simp] theorem setGuard_table (ch : Channel) (g : Guard) : (setGuard ch g s).table = s.table := rfl
@[simp] theorem setGuard_log (ch : Channel) (g : Guard) : (setGuard ch g s).log = s.log := rfl
@[simp] theorem setGuard_report (ch : Channel) (g : Guard) : (setGuard ch g s).report = s.report := rfl
@[simp] theorem setGuard_channels_guards (ch : Channel) (g : Guard) :
    (setGuard ch g s).channels.guards = putChannel s.channels.guards ch g :=
  rfl
@[simp] theorem setGuard_channels_resetAt (ch : Channel) (g : Guard) :
    (setGuard ch g s).channels.resetAt = s.channels.resetAt :=
  rfl
@[simp] theorem setGuard_channels_held (ch : Channel) (g : Guard) : (setGuard ch g s).channels.held = s.channels.held := rfl

@[simp] theorem setSlot_pending (i : SlotNo) (x : Slot) : (setSlot i x s).pending = s.pending := rfl
@[simp] theorem setSlot_now (i : SlotNo) (x : Slot) : (setSlot i x s).now = s.now := rfl
@[simp] theorem setSlot_station (i : SlotNo) (x : Slot) : (setSlot i x s).station = s.station := rfl
@[simp] theorem setSlot_channels (i : SlotNo) (x : Slot) : (setSlot i x s).channels = s.channels := rfl
@[simp] theorem setSlot_gather (i : SlotNo) (x : Slot) : (setSlot i x s).gather = s.gather := rfl
@[simp] theorem setSlot_clock (i : SlotNo) (x : Slot) : (setSlot i x s).clock = s.clock := rfl
@[simp] theorem setSlot_line (i : SlotNo) (x : Slot) : (setSlot i x s).line = s.line := rfl
@[simp] theorem setSlot_log (i : SlotNo) (x : Slot) : (setSlot i x s).log = s.log := rfl
@[simp] theorem setSlot_report (i : SlotNo) (x : Slot) : (setSlot i x s).report = s.report := rfl
@[simp] theorem setSlot_table_slots (i : SlotNo) (x : Slot) : (setSlot i x s).table.slots = s.table.slots.set i x := rfl
@[simp] theorem setSlot_table_pending (i : SlotNo) (x : Slot) : (setSlot i x s).table.pending = s.table.pending := rfl
@[simp] theorem setSlot_table_settle (i : SlotNo) (x : Slot) : (setSlot i x s).table.settle = s.table.settle := rfl
@[simp] theorem setSlot_table_watch (i : SlotNo) (x : Slot) : (setSlot i x s).table.watch = s.table.watch := rfl
@[simp] theorem setSlot_table_trap (i : SlotNo) (x : Slot) : (setSlot i x s).table.trap = s.table.trap := rfl
@[simp] theorem setSlot_table_bypass (i : SlotNo) (x : Slot) : (setSlot i x s).table.bypass = s.table.bypass := rfl
@[simp] theorem setSlot_table_reclaimed (i : SlotNo) (x : Slot) : (setSlot i x s).table.reclaimed = s.table.reclaimed := rfl
@[simp] theorem setSlot_table_untracked (i : SlotNo) (x : Slot) : (setSlot i x s).table.untracked = s.table.untracked := rfl
@[simp] theorem setSlot_table_dropped (i : SlotNo) (x : Slot) : (setSlot i x s).table.dropped = s.table.dropped := rfl
@[simp] theorem setSlot_table_watchFull (i : SlotNo) (x : Slot) : (setSlot i x s).table.watchFull = s.table.watchFull := rfl

@[simp] theorem setPeer_pending (k : Fin 31) (r : PeerRecord) : (setPeer k r s).pending = s.pending := rfl
@[simp] theorem setPeer_now (k : Fin 31) (r : PeerRecord) : (setPeer k r s).now = s.now := rfl
@[simp] theorem setPeer_station (k : Fin 31) (r : PeerRecord) : (setPeer k r s).station = s.station := rfl
@[simp] theorem setPeer_channels (k : Fin 31) (r : PeerRecord) : (setPeer k r s).channels = s.channels := rfl
@[simp] theorem setPeer_gather (k : Fin 31) (r : PeerRecord) : (setPeer k r s).gather = s.gather := rfl
@[simp] theorem setPeer_line (k : Fin 31) (r : PeerRecord) : (setPeer k r s).line = s.line := rfl
@[simp] theorem setPeer_table (k : Fin 31) (r : PeerRecord) : (setPeer k r s).table = s.table := rfl
@[simp] theorem setPeer_log (k : Fin 31) (r : PeerRecord) : (setPeer k r s).log = s.log := rfl
@[simp] theorem setPeer_report (k : Fin 31) (r : PeerRecord) : (setPeer k r s).report = s.report := rfl
@[simp] theorem setPeer_clock_peers (k : Fin 31) (r : PeerRecord) : (setPeer k r s).clock.peers = s.clock.peers.set k r := rfl
@[simp] theorem setPeer_clock_timeDue (k : Fin 31) (r : PeerRecord) : (setPeer k r s).clock.timeDue = s.clock.timeDue := rfl
@[simp] theorem setPeer_clock_statusDue (k : Fin 31) (r : PeerRecord) : (setPeer k r s).clock.statusDue = s.clock.statusDue := rfl

/-! ## The report port -/

@[simp] theorem judgeAttn_pending : (judgeAttn s).pending = s.pending := rfl
@[simp] theorem judgeAttn_now : (judgeAttn s).now = s.now := rfl
@[simp] theorem judgeAttn_station : (judgeAttn s).station = s.station := rfl
@[simp] theorem judgeAttn_channels : (judgeAttn s).channels = s.channels := rfl
@[simp] theorem judgeAttn_gather : (judgeAttn s).gather = s.gather := rfl
@[simp] theorem judgeAttn_clock : (judgeAttn s).clock = s.clock := rfl
@[simp] theorem judgeAttn_line : (judgeAttn s).line = s.line := rfl
@[simp] theorem judgeAttn_table : (judgeAttn s).table = s.table := rfl
@[simp] theorem judgeAttn_log : (judgeAttn s).log = s.log := rfl
@[simp] theorem judgeAttn_report_fifo : (judgeAttn s).report.fifo = s.report.fifo := rfl
@[simp] theorem judgeAttn_report_overrun : (judgeAttn s).report.overrun = s.report.overrun := rfl
@[simp] theorem judgeAttn_report_attn : (judgeAttn s).report.attn = attnHolds s := rfl
@[simp] theorem judgeAttn_report_port : (judgeAttn s).report.port = s.report.port := rfl
@[simp] theorem judgeAttn_report_transaction : (judgeAttn s).report.transaction = s.report.transaction := rfl

@[simp] theorem setPort_pending (p : PortState) : (setPort p s).pending = s.pending := rfl
@[simp] theorem setPort_now (p : PortState) : (setPort p s).now = s.now := rfl
@[simp] theorem setPort_station (p : PortState) : (setPort p s).station = s.station := rfl
@[simp] theorem setPort_channels (p : PortState) : (setPort p s).channels = s.channels := rfl
@[simp] theorem setPort_gather (p : PortState) : (setPort p s).gather = s.gather := rfl
@[simp] theorem setPort_clock (p : PortState) : (setPort p s).clock = s.clock := rfl
@[simp] theorem setPort_line (p : PortState) : (setPort p s).line = s.line := rfl
@[simp] theorem setPort_table (p : PortState) : (setPort p s).table = s.table := rfl
@[simp] theorem setPort_log (p : PortState) : (setPort p s).log = s.log := rfl
@[simp] theorem setPort_report_fifo (p : PortState) : (setPort p s).report.fifo = s.report.fifo := rfl
@[simp] theorem setPort_report_overrun (p : PortState) : (setPort p s).report.overrun = s.report.overrun := rfl
@[simp] theorem setPort_report_attn (p : PortState) : (setPort p s).report.attn = s.report.attn := rfl
@[simp] theorem setPort_report_port (p : PortState) : (setPort p s).report.port = p := rfl
@[simp] theorem setPort_report_transaction (p : PortState) : (setPort p s).report.transaction = s.report.transaction := rfl

@[simp] theorem answer_pending (r : Response) (c : Bool) (n : Nat) : (answer r c n s).pending = s.pending := rfl
@[simp] theorem answer_now (r : Response) (c : Bool) (n : Nat) : (answer r c n s).now = s.now := rfl
@[simp] theorem answer_station (r : Response) (c : Bool) (n : Nat) : (answer r c n s).station = s.station := rfl
@[simp] theorem answer_channels (r : Response) (c : Bool) (n : Nat) : (answer r c n s).channels = s.channels := rfl
@[simp] theorem answer_gather (r : Response) (c : Bool) (n : Nat) : (answer r c n s).gather = s.gather := rfl
@[simp] theorem answer_clock (r : Response) (c : Bool) (n : Nat) : (answer r c n s).clock = s.clock := rfl
@[simp] theorem answer_line (r : Response) (c : Bool) (n : Nat) : (answer r c n s).line = s.line := rfl
@[simp] theorem answer_table (r : Response) (c : Bool) (n : Nat) : (answer r c n s).table = s.table := rfl
@[simp] theorem answer_log (r : Response) (c : Bool) (n : Nat) : (answer r c n s).log = s.log := rfl
@[simp] theorem answer_report_fifo (r : Response) (c : Bool) (n : Nat) : (answer r c n s).report.fifo = s.report.fifo := rfl
@[simp] theorem answer_report_overrun (r : Response) (c : Bool) (n : Nat) :
    (answer r c n s).report.overrun = s.report.overrun :=
  rfl
@[simp] theorem answer_report_attn (r : Response) (c : Bool) (n : Nat) : (answer r c n s).report.attn = s.report.attn := rfl
@[simp] theorem answer_report_port (r : Response) (c : Bool) (n : Nat) : (answer r c n s).report.port = s.report.port := rfl
@[simp] theorem answer_report_transaction (r : Response) (c : Bool) (n : Nat) :
    (answer r c n s).report.transaction = some { response := r, frame := responseFrame r, collects := c, takes := n } :=
  rfl

@[simp] theorem respond_pending (r : Response) : (respond r s).pending = s.pending := rfl
@[simp] theorem respond_now (r : Response) : (respond r s).now = s.now := rfl
@[simp] theorem respond_station (r : Response) : (respond r s).station = s.station := rfl
@[simp] theorem respond_channels (r : Response) : (respond r s).channels = s.channels := rfl
@[simp] theorem respond_gather (r : Response) : (respond r s).gather = s.gather := rfl
@[simp] theorem respond_clock (r : Response) : (respond r s).clock = s.clock := rfl
@[simp] theorem respond_line (r : Response) : (respond r s).line = s.line := rfl
@[simp] theorem respond_table (r : Response) : (respond r s).table = s.table := rfl
@[simp] theorem respond_log (r : Response) : (respond r s).log = s.log := rfl
@[simp] theorem respond_report_fifo (r : Response) : (respond r s).report.fifo = s.report.fifo := rfl
@[simp] theorem respond_report_overrun (r : Response) : (respond r s).report.overrun = s.report.overrun := rfl
@[simp] theorem respond_report_attn (r : Response) : (respond r s).report.attn = s.report.attn := rfl
@[simp] theorem respond_report_port (r : Response) : (respond r s).report.port = s.report.port := rfl
@[simp] theorem respond_report_transaction (r : Response) :
    (respond r s).report.transaction = some { response := r, frame := responseFrame r, collects := false, takes := 0 } :=
  rfl

/-! ## The passing log -/

@[simp] theorem writeLog_pending (n : Nat) (e : LogEntry) : (writeLog n e s).pending = s.pending := rfl
@[simp] theorem writeLog_now (n : Nat) (e : LogEntry) : (writeLog n e s).now = s.now := rfl
@[simp] theorem writeLog_station (n : Nat) (e : LogEntry) : (writeLog n e s).station = s.station := rfl
@[simp] theorem writeLog_channels (n : Nat) (e : LogEntry) : (writeLog n e s).channels = s.channels := rfl
@[simp] theorem writeLog_gather (n : Nat) (e : LogEntry) : (writeLog n e s).gather = s.gather := rfl
@[simp] theorem writeLog_clock (n : Nat) (e : LogEntry) : (writeLog n e s).clock = s.clock := rfl
@[simp] theorem writeLog_line (n : Nat) (e : LogEntry) : (writeLog n e s).line = s.line := rfl
@[simp] theorem writeLog_table (n : Nat) (e : LogEntry) : (writeLog n e s).table = s.table := rfl
@[simp] theorem writeLog_report (n : Nat) (e : LogEntry) : (writeLog n e s).report = s.report := rfl
@[simp] theorem writeLog_log_counter (n : Nat) (e : LogEntry) : (writeLog n e s).log.counter = s.log.counter := rfl
@[simp] theorem writeLog_log_places (n : Nat) (e : LogEntry) :
    (writeLog n e s).log.places = s.log.places.map (fillPlace n e) :=
  rfl

@[simp] theorem updateLog_pending (n : Nat) (f : LogEntry → LogEntry) : (updateLog n f s).pending = s.pending := rfl
@[simp] theorem updateLog_now (n : Nat) (f : LogEntry → LogEntry) : (updateLog n f s).now = s.now := rfl
@[simp] theorem updateLog_station (n : Nat) (f : LogEntry → LogEntry) : (updateLog n f s).station = s.station := rfl
@[simp] theorem updateLog_channels (n : Nat) (f : LogEntry → LogEntry) : (updateLog n f s).channels = s.channels := rfl
@[simp] theorem updateLog_gather (n : Nat) (f : LogEntry → LogEntry) : (updateLog n f s).gather = s.gather := rfl
@[simp] theorem updateLog_clock (n : Nat) (f : LogEntry → LogEntry) : (updateLog n f s).clock = s.clock := rfl
@[simp] theorem updateLog_line (n : Nat) (f : LogEntry → LogEntry) : (updateLog n f s).line = s.line := rfl
@[simp] theorem updateLog_table (n : Nat) (f : LogEntry → LogEntry) : (updateLog n f s).table = s.table := rfl
@[simp] theorem updateLog_report (n : Nat) (f : LogEntry → LogEntry) : (updateLog n f s).report = s.report := rfl
@[simp] theorem updateLog_log_counter (n : Nat) (f : LogEntry → LogEntry) : (updateLog n f s).log.counter = s.log.counter := rfl
@[simp] theorem updateLog_log_places (n : Nat) (f : LogEntry → LogEntry) :
    (updateLog n f s).log.places = s.log.places.map (changePlace n f) :=
  rfl

/-! ## The pass gatherer -/

@[simp] theorem setEntries_pending (es : List Entry) : (setEntries es s).pending = s.pending := rfl
@[simp] theorem setEntries_now (es : List Entry) : (setEntries es s).now = s.now := rfl
@[simp] theorem setEntries_station (es : List Entry) : (setEntries es s).station = s.station := rfl
@[simp] theorem setEntries_channels (es : List Entry) : (setEntries es s).channels = s.channels := rfl
@[simp] theorem setEntries_clock (es : List Entry) : (setEntries es s).clock = s.clock := rfl
@[simp] theorem setEntries_line (es : List Entry) : (setEntries es s).line = s.line := rfl
@[simp] theorem setEntries_table (es : List Entry) : (setEntries es s).table = s.table := rfl
@[simp] theorem setEntries_log (es : List Entry) : (setEntries es s).log = s.log := rfl
@[simp] theorem setEntries_report (es : List Entry) : (setEntries es s).report = s.report := rfl
@[simp] theorem setEntries_gather_entries (es : List Entry) : (setEntries es s).gather.entries = es := rfl
@[simp] theorem setEntries_gather_queue (es : List Entry) : (setEntries es s).gather.queue = s.gather.queue := rfl
@[simp] theorem setEntries_gather_filter (es : List Entry) : (setEntries es s).gather.filter = s.gather.filter := rfl
@[simp] theorem setEntries_gather_crowded (es : List Entry) : (setEntries es s).gather.crowded = s.gather.crowded := rfl
@[simp] theorem setEntries_gather_closeCount (es : List Entry) : (setEntries es s).gather.closeCount = s.gather.closeCount := rfl

@[simp] theorem setCrowded_pending : (setCrowded s).pending = s.pending := rfl
@[simp] theorem setCrowded_now : (setCrowded s).now = s.now := rfl
@[simp] theorem setCrowded_station : (setCrowded s).station = s.station := rfl
@[simp] theorem setCrowded_channels : (setCrowded s).channels = s.channels := rfl
@[simp] theorem setCrowded_clock : (setCrowded s).clock = s.clock := rfl
@[simp] theorem setCrowded_line : (setCrowded s).line = s.line := rfl
@[simp] theorem setCrowded_table : (setCrowded s).table = s.table := rfl
@[simp] theorem setCrowded_log : (setCrowded s).log = s.log := rfl
@[simp] theorem setCrowded_report : (setCrowded s).report = s.report := rfl
@[simp] theorem setCrowded_gather_entries : (setCrowded s).gather.entries = s.gather.entries := rfl
@[simp] theorem setCrowded_gather_queue : (setCrowded s).gather.queue = s.gather.queue := rfl
@[simp] theorem setCrowded_gather_filter : (setCrowded s).gather.filter = s.gather.filter := rfl
@[simp] theorem setCrowded_gather_crowded : (setCrowded s).gather.crowded = true := rfl
@[simp] theorem setCrowded_gather_closeCount : (setCrowded s).gather.closeCount = s.gather.closeCount := rfl

/-! ## The line controller and its schedules -/

@[simp] theorem setQueue_pending (q : List Notice) : (setQueue q s).pending = s.pending := rfl
@[simp] theorem setQueue_now (q : List Notice) : (setQueue q s).now = s.now := rfl
@[simp] theorem setQueue_station (q : List Notice) : (setQueue q s).station = s.station := rfl
@[simp] theorem setQueue_channels (q : List Notice) : (setQueue q s).channels = s.channels := rfl
@[simp] theorem setQueue_gather (q : List Notice) : (setQueue q s).gather = s.gather := rfl
@[simp] theorem setQueue_clock (q : List Notice) : (setQueue q s).clock = s.clock := rfl
@[simp] theorem setQueue_table (q : List Notice) : (setQueue q s).table = s.table := rfl
@[simp] theorem setQueue_log (q : List Notice) : (setQueue q s).log = s.log := rfl
@[simp] theorem setQueue_report (q : List Notice) : (setQueue q s).report = s.report := rfl
@[simp] theorem setQueue_line_state (q : List Notice) : (setQueue q s).line.state = s.line.state := rfl
@[simp] theorem setQueue_line_queue (q : List Notice) : (setQueue q s).line.queue = q := rfl
@[simp] theorem setQueue_line_carrierSince (q : List Notice) : (setQueue q s).line.carrierSince = s.line.carrierSince := rfl
@[simp] theorem setQueue_line_quietFrom (q : List Notice) : (setQueue q s).line.quietFrom = s.line.quietFrom := rfl
@[simp] theorem setQueue_line_waitDue (q : List Notice) : (setQueue q s).line.waitDue = s.line.waitDue := rfl
@[simp] theorem setQueue_line_attemptFrom (q : List Notice) : (setQueue q s).line.attemptFrom = s.line.attemptFrom := rfl
@[simp] theorem setQueue_line_attemptEnd (q : List Notice) : (setQueue q s).line.attemptEnd = s.line.attemptEnd := rfl
@[simp] theorem setQueue_line_frame (q : List Notice) : (setQueue q s).line.frame = s.line.frame := rfl
@[simp] theorem setQueue_line_intake (q : List Notice) : (setQueue q s).line.intake = s.line.intake := rfl
@[simp] theorem setQueue_line_overrun (q : List Notice) : (setQueue q s).line.overrun = s.line.overrun := rfl

@[simp] theorem enterDeferring_pending : (enterDeferring s).pending = s.pending := rfl
@[simp] theorem enterDeferring_now : (enterDeferring s).now = s.now := rfl
@[simp] theorem enterDeferring_station : (enterDeferring s).station = s.station := rfl
@[simp] theorem enterDeferring_channels : (enterDeferring s).channels = s.channels := rfl
@[simp] theorem enterDeferring_gather : (enterDeferring s).gather = s.gather := rfl
@[simp] theorem enterDeferring_clock : (enterDeferring s).clock = s.clock := rfl
@[simp] theorem enterDeferring_table : (enterDeferring s).table = s.table := rfl
@[simp] theorem enterDeferring_log : (enterDeferring s).log = s.log := rfl
@[simp] theorem enterDeferring_report : (enterDeferring s).report = s.report := rfl
@[simp] theorem enterDeferring_line_state : (enterDeferring s).line.state = .deferring := rfl
@[simp] theorem enterDeferring_line_queue : (enterDeferring s).line.queue = s.line.queue := rfl
@[simp] theorem enterDeferring_line_carrierSince : (enterDeferring s).line.carrierSince = s.line.carrierSince := rfl
@[simp] theorem enterDeferring_line_quietFrom :
    (enterDeferring s).line.quietFrom = if s.line.carrierSince.isSome then none else some s.now :=
  rfl
@[simp] theorem enterDeferring_line_waitDue : (enterDeferring s).line.waitDue = none := rfl
@[simp] theorem enterDeferring_line_attemptFrom : (enterDeferring s).line.attemptFrom = s.line.attemptFrom := rfl
@[simp] theorem enterDeferring_line_attemptEnd : (enterDeferring s).line.attemptEnd = s.line.attemptEnd := rfl
@[simp] theorem enterDeferring_line_frame : (enterDeferring s).line.frame = s.line.frame := rfl
@[simp] theorem enterDeferring_line_intake : (enterDeferring s).line.intake = s.line.intake := rfl
@[simp] theorem enterDeferring_line_overrun : (enterDeferring s).line.overrun = s.line.overrun := rfl

@[simp] theorem enterListening_pending : (enterListening s).pending = s.pending := rfl
@[simp] theorem enterListening_now : (enterListening s).now = s.now := rfl
@[simp] theorem enterListening_station : (enterListening s).station = s.station := rfl
@[simp] theorem enterListening_channels : (enterListening s).channels = s.channels := rfl
@[simp] theorem enterListening_gather : (enterListening s).gather = s.gather := rfl
@[simp] theorem enterListening_clock : (enterListening s).clock = s.clock := rfl
@[simp] theorem enterListening_table : (enterListening s).table = s.table := rfl
@[simp] theorem enterListening_log : (enterListening s).log = s.log := rfl
@[simp] theorem enterListening_report : (enterListening s).report = s.report := rfl
@[simp] theorem enterListening_line_state : (enterListening s).line.state = .listening := rfl
@[simp] theorem enterListening_line_queue : (enterListening s).line.queue = s.line.queue := rfl
@[simp] theorem enterListening_line_carrierSince : (enterListening s).line.carrierSince = s.line.carrierSince := rfl
@[simp] theorem enterListening_line_quietFrom : (enterListening s).line.quietFrom = none := rfl
@[simp] theorem enterListening_line_waitDue : (enterListening s).line.waitDue = none := rfl
@[simp] theorem enterListening_line_attemptFrom : (enterListening s).line.attemptFrom = s.line.attemptFrom := rfl
@[simp] theorem enterListening_line_attemptEnd : (enterListening s).line.attemptEnd = s.line.attemptEnd := rfl
@[simp] theorem enterListening_line_frame : (enterListening s).line.frame = s.line.frame := rfl
@[simp] theorem enterListening_line_intake : (enterListening s).line.intake = s.line.intake := rfl
@[simp] theorem enterListening_line_overrun : (enterListening s).line.overrun = s.line.overrun := rfl

@[simp] theorem endAttempt_pending : (endAttempt s).pending = s.pending := rfl
@[simp] theorem endAttempt_now : (endAttempt s).now = s.now := rfl
@[simp] theorem endAttempt_station : (endAttempt s).station = s.station := rfl
@[simp] theorem endAttempt_channels : (endAttempt s).channels = s.channels := rfl
@[simp] theorem endAttempt_gather : (endAttempt s).gather = s.gather := rfl
@[simp] theorem endAttempt_clock : (endAttempt s).clock = s.clock := rfl
@[simp] theorem endAttempt_table : (endAttempt s).table = s.table := rfl
@[simp] theorem endAttempt_log : (endAttempt s).log = s.log := rfl
@[simp] theorem endAttempt_report : (endAttempt s).report = s.report := rfl
@[simp] theorem endAttempt_line_state : (endAttempt s).line.state = s.line.state := rfl
@[simp] theorem endAttempt_line_queue : (endAttempt s).line.queue = s.line.queue := rfl
@[simp] theorem endAttempt_line_carrierSince : (endAttempt s).line.carrierSince = s.line.carrierSince := rfl
@[simp] theorem endAttempt_line_quietFrom : (endAttempt s).line.quietFrom = s.line.quietFrom := rfl
@[simp] theorem endAttempt_line_waitDue : (endAttempt s).line.waitDue = s.line.waitDue := rfl
@[simp] theorem endAttempt_line_attemptFrom : (endAttempt s).line.attemptFrom = s.line.attemptFrom := rfl
@[simp] theorem endAttempt_line_attemptEnd : (endAttempt s).line.attemptEnd = some s.now := rfl
@[simp] theorem endAttempt_line_frame : (endAttempt s).line.frame = [] := rfl
@[simp] theorem endAttempt_line_intake : (endAttempt s).line.intake = s.line.intake := rfl
@[simp] theorem endAttempt_line_overrun : (endAttempt s).line.overrun = s.line.overrun := rfl

@[simp] theorem dropIntake_pending : (dropIntake s).pending = s.pending := rfl
@[simp] theorem dropIntake_now : (dropIntake s).now = s.now := rfl
@[simp] theorem dropIntake_station : (dropIntake s).station = s.station := rfl
@[simp] theorem dropIntake_channels : (dropIntake s).channels = s.channels := rfl
@[simp] theorem dropIntake_gather : (dropIntake s).gather = s.gather := rfl
@[simp] theorem dropIntake_clock : (dropIntake s).clock = s.clock := rfl
@[simp] theorem dropIntake_table : (dropIntake s).table = s.table := rfl
@[simp] theorem dropIntake_log : (dropIntake s).log = s.log := rfl
@[simp] theorem dropIntake_report : (dropIntake s).report = s.report := rfl
@[simp] theorem dropIntake_line_state : (dropIntake s).line.state = s.line.state := rfl
@[simp] theorem dropIntake_line_queue : (dropIntake s).line.queue = s.line.queue := rfl
@[simp] theorem dropIntake_line_carrierSince : (dropIntake s).line.carrierSince = s.line.carrierSince := rfl
@[simp] theorem dropIntake_line_quietFrom : (dropIntake s).line.quietFrom = s.line.quietFrom := rfl
@[simp] theorem dropIntake_line_waitDue : (dropIntake s).line.waitDue = s.line.waitDue := rfl
@[simp] theorem dropIntake_line_attemptFrom : (dropIntake s).line.attemptFrom = s.line.attemptFrom := rfl
@[simp] theorem dropIntake_line_attemptEnd : (dropIntake s).line.attemptEnd = s.line.attemptEnd := rfl
@[simp] theorem dropIntake_line_frame : (dropIntake s).line.frame = s.line.frame := rfl
@[simp] theorem dropIntake_line_intake : (dropIntake s).line.intake = [] := rfl
@[simp] theorem dropIntake_line_overrun : (dropIntake s).line.overrun = s.line.overrun := rfl

@[simp] theorem startTimeTimer_pending : (startTimeTimer s).pending = s.pending := rfl
@[simp] theorem startTimeTimer_now : (startTimeTimer s).now = s.now := rfl
@[simp] theorem startTimeTimer_station : (startTimeTimer s).station = s.station := rfl
@[simp] theorem startTimeTimer_channels : (startTimeTimer s).channels = s.channels := rfl
@[simp] theorem startTimeTimer_gather : (startTimeTimer s).gather = s.gather := rfl
@[simp] theorem startTimeTimer_line : (startTimeTimer s).line = s.line := rfl
@[simp] theorem startTimeTimer_table : (startTimeTimer s).table = s.table := rfl
@[simp] theorem startTimeTimer_log : (startTimeTimer s).log = s.log := rfl
@[simp] theorem startTimeTimer_report : (startTimeTimer s).report = s.report := rfl
@[simp] theorem startTimeTimer_clock_peers : (startTimeTimer s).clock.peers = s.clock.peers := rfl
@[simp] theorem startTimeTimer_clock_timeDue : (startTimeTimer s).clock.timeDue = some (later s.now Config.timeInterval) := rfl
@[simp] theorem startTimeTimer_clock_statusDue : (startTimeTimer s).clock.statusDue = s.clock.statusDue := rfl

@[simp] theorem scheduleStatus_pending : (scheduleStatus s).pending = s.pending := rfl
@[simp] theorem scheduleStatus_now : (scheduleStatus s).now = s.now := rfl
@[simp] theorem scheduleStatus_station : (scheduleStatus s).station = s.station := rfl
@[simp] theorem scheduleStatus_channels : (scheduleStatus s).channels = s.channels := rfl
@[simp] theorem scheduleStatus_gather : (scheduleStatus s).gather = s.gather := rfl
@[simp] theorem scheduleStatus_line : (scheduleStatus s).line = s.line := rfl
@[simp] theorem scheduleStatus_table : (scheduleStatus s).table = s.table := rfl
@[simp] theorem scheduleStatus_log : (scheduleStatus s).log = s.log := rfl
@[simp] theorem scheduleStatus_report : (scheduleStatus s).report = s.report := rfl
@[simp] theorem scheduleStatus_clock_peers : (scheduleStatus s).clock.peers = s.clock.peers := rfl
@[simp] theorem scheduleStatus_clock_timeDue : (scheduleStatus s).clock.timeDue = s.clock.timeDue := rfl
@[simp] theorem scheduleStatus_clock_statusDue :
    (scheduleStatus s).clock.statusDue = some (later s.now Config.statusInterval) :=
  rfl

/-! ## The competitor table -/

@[simp] theorem removePending_pending (i : SlotNo) : (removePending i s).pending = s.pending := rfl
@[simp] theorem removePending_now (i : SlotNo) : (removePending i s).now = s.now := rfl
@[simp] theorem removePending_station (i : SlotNo) : (removePending i s).station = s.station := rfl
@[simp] theorem removePending_channels (i : SlotNo) : (removePending i s).channels = s.channels := rfl
@[simp] theorem removePending_gather (i : SlotNo) : (removePending i s).gather = s.gather := rfl
@[simp] theorem removePending_clock (i : SlotNo) : (removePending i s).clock = s.clock := rfl
@[simp] theorem removePending_line (i : SlotNo) : (removePending i s).line = s.line := rfl
@[simp] theorem removePending_log (i : SlotNo) : (removePending i s).log = s.log := rfl
@[simp] theorem removePending_report (i : SlotNo) : (removePending i s).report = s.report := rfl
@[simp] theorem removePending_table_slots (i : SlotNo) : (removePending i s).table.slots = s.table.slots := rfl
@[simp] theorem removePending_table_pending (i : SlotNo) :
    (removePending i s).table.pending = s.table.pending.filter (fun e => e.slot != i) :=
  rfl
@[simp] theorem removePending_table_settle (i : SlotNo) : (removePending i s).table.settle = s.table.settle := rfl
@[simp] theorem removePending_table_watch (i : SlotNo) : (removePending i s).table.watch = s.table.watch := rfl
@[simp] theorem removePending_table_trap (i : SlotNo) : (removePending i s).table.trap = s.table.trap := rfl
@[simp] theorem removePending_table_bypass (i : SlotNo) : (removePending i s).table.bypass = s.table.bypass := rfl
@[simp] theorem removePending_table_reclaimed (i : SlotNo) : (removePending i s).table.reclaimed = s.table.reclaimed := rfl
@[simp] theorem removePending_table_untracked (i : SlotNo) : (removePending i s).table.untracked = s.table.untracked := rfl
@[simp] theorem removePending_table_dropped (i : SlotNo) : (removePending i s).table.dropped = s.table.dropped := rfl
@[simp] theorem removePending_table_watchFull (i : SlotNo) : (removePending i s).table.watchFull = s.table.watchFull := rfl

@[simp] theorem removeSettle_pending (i : SlotNo) : (removeSettle i s).pending = s.pending := rfl
@[simp] theorem removeSettle_now (i : SlotNo) : (removeSettle i s).now = s.now := rfl
@[simp] theorem removeSettle_station (i : SlotNo) : (removeSettle i s).station = s.station := rfl
@[simp] theorem removeSettle_channels (i : SlotNo) : (removeSettle i s).channels = s.channels := rfl
@[simp] theorem removeSettle_gather (i : SlotNo) : (removeSettle i s).gather = s.gather := rfl
@[simp] theorem removeSettle_clock (i : SlotNo) : (removeSettle i s).clock = s.clock := rfl
@[simp] theorem removeSettle_line (i : SlotNo) : (removeSettle i s).line = s.line := rfl
@[simp] theorem removeSettle_log (i : SlotNo) : (removeSettle i s).log = s.log := rfl
@[simp] theorem removeSettle_report (i : SlotNo) : (removeSettle i s).report = s.report := rfl
@[simp] theorem removeSettle_table_slots (i : SlotNo) : (removeSettle i s).table.slots = s.table.slots := rfl
@[simp] theorem removeSettle_table_pending (i : SlotNo) : (removeSettle i s).table.pending = s.table.pending := rfl
@[simp] theorem removeSettle_table_settle (i : SlotNo) :
    (removeSettle i s).table.settle = s.table.settle.filter (fun e => e.slot != i) :=
  rfl
@[simp] theorem removeSettle_table_watch (i : SlotNo) : (removeSettle i s).table.watch = s.table.watch := rfl
@[simp] theorem removeSettle_table_trap (i : SlotNo) : (removeSettle i s).table.trap = s.table.trap := rfl
@[simp] theorem removeSettle_table_bypass (i : SlotNo) : (removeSettle i s).table.bypass = s.table.bypass := rfl
@[simp] theorem removeSettle_table_reclaimed (i : SlotNo) : (removeSettle i s).table.reclaimed = s.table.reclaimed := rfl
@[simp] theorem removeSettle_table_untracked (i : SlotNo) : (removeSettle i s).table.untracked = s.table.untracked := rfl
@[simp] theorem removeSettle_table_dropped (i : SlotNo) : (removeSettle i s).table.dropped = s.table.dropped := rfl
@[simp] theorem removeSettle_table_watchFull (i : SlotNo) : (removeSettle i s).table.watchFull = s.table.watchFull := rfl

@[simp] theorem removeWatch_pending (i : SlotNo) : (removeWatch i s).pending = s.pending := rfl
@[simp] theorem removeWatch_now (i : SlotNo) : (removeWatch i s).now = s.now := rfl
@[simp] theorem removeWatch_station (i : SlotNo) : (removeWatch i s).station = s.station := rfl
@[simp] theorem removeWatch_channels (i : SlotNo) : (removeWatch i s).channels = s.channels := rfl
@[simp] theorem removeWatch_gather (i : SlotNo) : (removeWatch i s).gather = s.gather := rfl
@[simp] theorem removeWatch_clock (i : SlotNo) : (removeWatch i s).clock = s.clock := rfl
@[simp] theorem removeWatch_line (i : SlotNo) : (removeWatch i s).line = s.line := rfl
@[simp] theorem removeWatch_log (i : SlotNo) : (removeWatch i s).log = s.log := rfl
@[simp] theorem removeWatch_report (i : SlotNo) : (removeWatch i s).report = s.report := rfl
@[simp] theorem removeWatch_table_slots (i : SlotNo) : (removeWatch i s).table.slots = s.table.slots := rfl
@[simp] theorem removeWatch_table_pending (i : SlotNo) : (removeWatch i s).table.pending = s.table.pending := rfl
@[simp] theorem removeWatch_table_settle (i : SlotNo) : (removeWatch i s).table.settle = s.table.settle := rfl
@[simp] theorem removeWatch_table_watch (i : SlotNo) :
    (removeWatch i s).table.watch = s.table.watch.filter (fun e => e.slot != i) :=
  rfl
@[simp] theorem removeWatch_table_trap (i : SlotNo) : (removeWatch i s).table.trap = s.table.trap := rfl
@[simp] theorem removeWatch_table_bypass (i : SlotNo) : (removeWatch i s).table.bypass = s.table.bypass := rfl
@[simp] theorem removeWatch_table_reclaimed (i : SlotNo) : (removeWatch i s).table.reclaimed = s.table.reclaimed := rfl
@[simp] theorem removeWatch_table_untracked (i : SlotNo) : (removeWatch i s).table.untracked = s.table.untracked := rfl
@[simp] theorem removeWatch_table_dropped (i : SlotNo) : (removeWatch i s).table.dropped = s.table.dropped := rfl
@[simp] theorem removeWatch_table_watchFull (i : SlotNo) : (removeWatch i s).table.watchFull = s.table.watchFull := rfl

@[simp] theorem removeTrap_pending (i : SlotNo) : (removeTrap i s).pending = s.pending := rfl
@[simp] theorem removeTrap_now (i : SlotNo) : (removeTrap i s).now = s.now := rfl
@[simp] theorem removeTrap_station (i : SlotNo) : (removeTrap i s).station = s.station := rfl
@[simp] theorem removeTrap_channels (i : SlotNo) : (removeTrap i s).channels = s.channels := rfl
@[simp] theorem removeTrap_gather (i : SlotNo) : (removeTrap i s).gather = s.gather := rfl
@[simp] theorem removeTrap_clock (i : SlotNo) : (removeTrap i s).clock = s.clock := rfl
@[simp] theorem removeTrap_line (i : SlotNo) : (removeTrap i s).line = s.line := rfl
@[simp] theorem removeTrap_log (i : SlotNo) : (removeTrap i s).log = s.log := rfl
@[simp] theorem removeTrap_report (i : SlotNo) : (removeTrap i s).report = s.report := rfl
@[simp] theorem removeTrap_table_slots (i : SlotNo) : (removeTrap i s).table.slots = s.table.slots := rfl
@[simp] theorem removeTrap_table_pending (i : SlotNo) : (removeTrap i s).table.pending = s.table.pending := rfl
@[simp] theorem removeTrap_table_settle (i : SlotNo) : (removeTrap i s).table.settle = s.table.settle := rfl
@[simp] theorem removeTrap_table_watch (i : SlotNo) : (removeTrap i s).table.watch = s.table.watch := rfl
@[simp] theorem removeTrap_table_trap (i : SlotNo) :
    (removeTrap i s).table.trap = s.table.trap.filter (fun e => e.slot != i) :=
  rfl
@[simp] theorem removeTrap_table_bypass (i : SlotNo) : (removeTrap i s).table.bypass = s.table.bypass := rfl
@[simp] theorem removeTrap_table_reclaimed (i : SlotNo) : (removeTrap i s).table.reclaimed = s.table.reclaimed := rfl
@[simp] theorem removeTrap_table_untracked (i : SlotNo) : (removeTrap i s).table.untracked = s.table.untracked := rfl
@[simp] theorem removeTrap_table_dropped (i : SlotNo) : (removeTrap i s).table.dropped = s.table.dropped := rfl
@[simp] theorem removeTrap_table_watchFull (i : SlotNo) : (removeTrap i s).table.watchFull = s.table.watchFull := rfl

@[simp] theorem addPending_pending (e : PendingSector) : (addPending e s).pending = s.pending := rfl
@[simp] theorem addPending_now (e : PendingSector) : (addPending e s).now = s.now := rfl
@[simp] theorem addPending_station (e : PendingSector) : (addPending e s).station = s.station := rfl
@[simp] theorem addPending_channels (e : PendingSector) : (addPending e s).channels = s.channels := rfl
@[simp] theorem addPending_gather (e : PendingSector) : (addPending e s).gather = s.gather := rfl
@[simp] theorem addPending_clock (e : PendingSector) : (addPending e s).clock = s.clock := rfl
@[simp] theorem addPending_line (e : PendingSector) : (addPending e s).line = s.line := rfl
@[simp] theorem addPending_log (e : PendingSector) : (addPending e s).log = s.log := rfl
@[simp] theorem addPending_report (e : PendingSector) : (addPending e s).report = s.report := rfl
@[simp] theorem addPending_table_slots (e : PendingSector) : (addPending e s).table.slots = s.table.slots := rfl
@[simp] theorem addPending_table_pending (e : PendingSector) :
    (addPending e s).table.pending = insertByTime (·.expiry) e s.table.pending :=
  rfl
@[simp] theorem addPending_table_settle (e : PendingSector) : (addPending e s).table.settle = s.table.settle := rfl
@[simp] theorem addPending_table_watch (e : PendingSector) : (addPending e s).table.watch = s.table.watch := rfl
@[simp] theorem addPending_table_trap (e : PendingSector) : (addPending e s).table.trap = s.table.trap := rfl
@[simp] theorem addPending_table_bypass (e : PendingSector) : (addPending e s).table.bypass = s.table.bypass := rfl
@[simp] theorem addPending_table_reclaimed (e : PendingSector) : (addPending e s).table.reclaimed = s.table.reclaimed := rfl
@[simp] theorem addPending_table_untracked (e : PendingSector) : (addPending e s).table.untracked = s.table.untracked := rfl
@[simp] theorem addPending_table_dropped (e : PendingSector) : (addPending e s).table.dropped = s.table.dropped := rfl
@[simp] theorem addPending_table_watchFull (e : PendingSector) : (addPending e s).table.watchFull = s.table.watchFull := rfl

@[simp] theorem addSettle_pending (e : SettleEntry) : (addSettle e s).pending = s.pending := rfl
@[simp] theorem addSettle_now (e : SettleEntry) : (addSettle e s).now = s.now := rfl
@[simp] theorem addSettle_station (e : SettleEntry) : (addSettle e s).station = s.station := rfl
@[simp] theorem addSettle_channels (e : SettleEntry) : (addSettle e s).channels = s.channels := rfl
@[simp] theorem addSettle_gather (e : SettleEntry) : (addSettle e s).gather = s.gather := rfl
@[simp] theorem addSettle_clock (e : SettleEntry) : (addSettle e s).clock = s.clock := rfl
@[simp] theorem addSettle_line (e : SettleEntry) : (addSettle e s).line = s.line := rfl
@[simp] theorem addSettle_log (e : SettleEntry) : (addSettle e s).log = s.log := rfl
@[simp] theorem addSettle_report (e : SettleEntry) : (addSettle e s).report = s.report := rfl
@[simp] theorem addSettle_table_slots (e : SettleEntry) : (addSettle e s).table.slots = s.table.slots := rfl
@[simp] theorem addSettle_table_pending (e : SettleEntry) : (addSettle e s).table.pending = s.table.pending := rfl
@[simp] theorem addSettle_table_settle (e : SettleEntry) :
    (addSettle e s).table.settle = insertByTime (·.expiry) e s.table.settle :=
  rfl
@[simp] theorem addSettle_table_watch (e : SettleEntry) : (addSettle e s).table.watch = s.table.watch := rfl
@[simp] theorem addSettle_table_trap (e : SettleEntry) : (addSettle e s).table.trap = s.table.trap := rfl
@[simp] theorem addSettle_table_bypass (e : SettleEntry) : (addSettle e s).table.bypass = s.table.bypass := rfl
@[simp] theorem addSettle_table_reclaimed (e : SettleEntry) : (addSettle e s).table.reclaimed = s.table.reclaimed := rfl
@[simp] theorem addSettle_table_untracked (e : SettleEntry) : (addSettle e s).table.untracked = s.table.untracked := rfl
@[simp] theorem addSettle_table_dropped (e : SettleEntry) : (addSettle e s).table.dropped = s.table.dropped := rfl
@[simp] theorem addSettle_table_watchFull (e : SettleEntry) : (addSettle e s).table.watchFull = s.table.watchFull := rfl

@[simp] theorem addWatch_pending (e : Watch) : (addWatch e s).pending = s.pending := rfl
@[simp] theorem addWatch_now (e : Watch) : (addWatch e s).now = s.now := rfl
@[simp] theorem addWatch_station (e : Watch) : (addWatch e s).station = s.station := rfl
@[simp] theorem addWatch_channels (e : Watch) : (addWatch e s).channels = s.channels := rfl
@[simp] theorem addWatch_gather (e : Watch) : (addWatch e s).gather = s.gather := rfl
@[simp] theorem addWatch_clock (e : Watch) : (addWatch e s).clock = s.clock := rfl
@[simp] theorem addWatch_line (e : Watch) : (addWatch e s).line = s.line := rfl
@[simp] theorem addWatch_log (e : Watch) : (addWatch e s).log = s.log := rfl
@[simp] theorem addWatch_report (e : Watch) : (addWatch e s).report = s.report := rfl
@[simp] theorem addWatch_table_slots (e : Watch) : (addWatch e s).table.slots = s.table.slots := rfl
@[simp] theorem addWatch_table_pending (e : Watch) : (addWatch e s).table.pending = s.table.pending := rfl
@[simp] theorem addWatch_table_settle (e : Watch) : (addWatch e s).table.settle = s.table.settle := rfl
@[simp] theorem addWatch_table_watch (e : Watch) : (addWatch e s).table.watch = insertByTime (·.dueTime) e s.table.watch := rfl
@[simp] theorem addWatch_table_trap (e : Watch) : (addWatch e s).table.trap = s.table.trap := rfl
@[simp] theorem addWatch_table_bypass (e : Watch) : (addWatch e s).table.bypass = s.table.bypass := rfl
@[simp] theorem addWatch_table_reclaimed (e : Watch) : (addWatch e s).table.reclaimed = s.table.reclaimed := rfl
@[simp] theorem addWatch_table_untracked (e : Watch) : (addWatch e s).table.untracked = s.table.untracked := rfl
@[simp] theorem addWatch_table_dropped (e : Watch) : (addWatch e s).table.dropped = s.table.dropped := rfl
@[simp] theorem addWatch_table_watchFull (e : Watch) : (addWatch e s).table.watchFull = s.table.watchFull := rfl

@[simp] theorem addTrap_pending (e : TrapWait) : (addTrap e s).pending = s.pending := rfl
@[simp] theorem addTrap_now (e : TrapWait) : (addTrap e s).now = s.now := rfl
@[simp] theorem addTrap_station (e : TrapWait) : (addTrap e s).station = s.station := rfl
@[simp] theorem addTrap_channels (e : TrapWait) : (addTrap e s).channels = s.channels := rfl
@[simp] theorem addTrap_gather (e : TrapWait) : (addTrap e s).gather = s.gather := rfl
@[simp] theorem addTrap_clock (e : TrapWait) : (addTrap e s).clock = s.clock := rfl
@[simp] theorem addTrap_line (e : TrapWait) : (addTrap e s).line = s.line := rfl
@[simp] theorem addTrap_log (e : TrapWait) : (addTrap e s).log = s.log := rfl
@[simp] theorem addTrap_report (e : TrapWait) : (addTrap e s).report = s.report := rfl
@[simp] theorem addTrap_table_slots (e : TrapWait) : (addTrap e s).table.slots = s.table.slots := rfl
@[simp] theorem addTrap_table_pending (e : TrapWait) : (addTrap e s).table.pending = s.table.pending := rfl
@[simp] theorem addTrap_table_settle (e : TrapWait) : (addTrap e s).table.settle = s.table.settle := rfl
@[simp] theorem addTrap_table_watch (e : TrapWait) : (addTrap e s).table.watch = s.table.watch := rfl
@[simp] theorem addTrap_table_trap (e : TrapWait) : (addTrap e s).table.trap = insertByTime (·.expiry) e s.table.trap := rfl
@[simp] theorem addTrap_table_bypass (e : TrapWait) : (addTrap e s).table.bypass = s.table.bypass := rfl
@[simp] theorem addTrap_table_reclaimed (e : TrapWait) : (addTrap e s).table.reclaimed = s.table.reclaimed := rfl
@[simp] theorem addTrap_table_untracked (e : TrapWait) : (addTrap e s).table.untracked = s.table.untracked := rfl
@[simp] theorem addTrap_table_dropped (e : TrapWait) : (addTrap e s).table.dropped = s.table.dropped := rfl
@[simp] theorem addTrap_table_watchFull (e : TrapWait) : (addTrap e s).table.watchFull = s.table.watchFull := rfl

@[simp] theorem settleTimer_pending : (settleTimer s).pending = s.pending := rfl
@[simp] theorem settleTimer_now : (settleTimer s).now = s.now := rfl
@[simp] theorem settleTimer_station : (settleTimer s).station = s.station := rfl
@[simp] theorem settleTimer_channels : (settleTimer s).channels = s.channels := rfl
@[simp] theorem settleTimer_gather : (settleTimer s).gather = s.gather := rfl
@[simp] theorem settleTimer_clock : (settleTimer s).clock = s.clock := rfl
@[simp] theorem settleTimer_line : (settleTimer s).line = s.line := rfl
@[simp] theorem settleTimer_log : (settleTimer s).log = s.log := rfl
@[simp] theorem settleTimer_report : (settleTimer s).report = s.report := rfl
@[simp] theorem settleTimer_table_slots : (settleTimer s).table.slots = s.table.slots := rfl
@[simp] theorem settleTimer_table_pending : (settleTimer s).table.pending = s.table.pending := rfl
@[simp] theorem settleTimer_table_settle : (settleTimer s).table.settle = s.table.settle := rfl
@[simp] theorem settleTimer_table_watch : (settleTimer s).table.watch = s.table.watch := rfl
@[simp] theorem settleTimer_table_trap : (settleTimer s).table.trap = s.table.trap := rfl
@[simp] theorem settleTimer_table_bypass :
    (settleTimer s).table.bypass = { s.table.bypass with timer := if (dueItems s).isEmpty then 0 else s.table.bypass.timer } :=
  rfl
@[simp] theorem settleTimer_table_reclaimed : (settleTimer s).table.reclaimed = s.table.reclaimed := rfl
@[simp] theorem settleTimer_table_untracked : (settleTimer s).table.untracked = s.table.untracked := rfl
@[simp] theorem settleTimer_table_dropped : (settleTimer s).table.dropped = s.table.dropped := rfl
@[simp] theorem settleTimer_table_watchFull : (settleTimer s).table.watchFull = s.table.watchFull := rfl

@[simp] theorem releaseSlots_pending (f : SlotNo → Bool) : (releaseSlots f s).pending = s.pending := rfl
@[simp] theorem releaseSlots_now (f : SlotNo → Bool) : (releaseSlots f s).now = s.now := rfl
@[simp] theorem releaseSlots_station (f : SlotNo → Bool) : (releaseSlots f s).station = s.station := rfl
@[simp] theorem releaseSlots_channels (f : SlotNo → Bool) : (releaseSlots f s).channels = s.channels := rfl
@[simp] theorem releaseSlots_gather (f : SlotNo → Bool) : (releaseSlots f s).gather = s.gather := rfl
@[simp] theorem releaseSlots_clock (f : SlotNo → Bool) : (releaseSlots f s).clock = s.clock := rfl
@[simp] theorem releaseSlots_line (f : SlotNo → Bool) : (releaseSlots f s).line = s.line := rfl
@[simp] theorem releaseSlots_table (f : SlotNo → Bool) : (releaseSlots f s).table = s.table := rfl
@[simp] theorem releaseSlots_report (f : SlotNo → Bool) : (releaseSlots f s).report = s.report := rfl
@[simp] theorem releaseSlots_log_counter (f : SlotNo → Bool) : (releaseSlots f s).log.counter = s.log.counter := rfl
@[simp] theorem releaseSlots_log_places (f : SlotNo → Bool) :
    (releaseSlots f s).log.places = s.log.places.map (fun q => { q with entry := q.entry.map (releaseEntry f) }) :=
  rfl

@[simp] theorem setWatchFull_pending : (setWatchFull s).pending = s.pending := rfl
@[simp] theorem setWatchFull_now : (setWatchFull s).now = s.now := rfl
@[simp] theorem setWatchFull_station : (setWatchFull s).station = s.station := rfl
@[simp] theorem setWatchFull_channels : (setWatchFull s).channels = s.channels := rfl
@[simp] theorem setWatchFull_gather : (setWatchFull s).gather = s.gather := rfl
@[simp] theorem setWatchFull_clock : (setWatchFull s).clock = s.clock := rfl
@[simp] theorem setWatchFull_line : (setWatchFull s).line = s.line := rfl
@[simp] theorem setWatchFull_log : (setWatchFull s).log = s.log := rfl
@[simp] theorem setWatchFull_report : (setWatchFull s).report = s.report := rfl
@[simp] theorem setWatchFull_table_slots : (setWatchFull s).table.slots = s.table.slots := rfl
@[simp] theorem setWatchFull_table_pending : (setWatchFull s).table.pending = s.table.pending := rfl
@[simp] theorem setWatchFull_table_settle : (setWatchFull s).table.settle = s.table.settle := rfl
@[simp] theorem setWatchFull_table_watch : (setWatchFull s).table.watch = s.table.watch := rfl
@[simp] theorem setWatchFull_table_trap : (setWatchFull s).table.trap = s.table.trap := rfl
@[simp] theorem setWatchFull_table_bypass : (setWatchFull s).table.bypass = s.table.bypass := rfl
@[simp] theorem setWatchFull_table_reclaimed : (setWatchFull s).table.reclaimed = s.table.reclaimed := rfl
@[simp] theorem setWatchFull_table_untracked : (setWatchFull s).table.untracked = s.table.untracked := rfl
@[simp] theorem setWatchFull_table_dropped : (setWatchFull s).table.dropped = s.table.dropped := rfl
@[simp] theorem setWatchFull_table_watchFull : (setWatchFull s).table.watchFull = true := rfl

@[simp] theorem beginGrant_pending (r : Requester) : (beginGrant r s).pending = s.pending := rfl
@[simp] theorem beginGrant_now (r : Requester) : (beginGrant r s).now = s.now := rfl
@[simp] theorem beginGrant_station (r : Requester) : (beginGrant r s).station = s.station := rfl
@[simp] theorem beginGrant_channels (r : Requester) : (beginGrant r s).channels = s.channels := rfl
@[simp] theorem beginGrant_gather (r : Requester) : (beginGrant r s).gather = s.gather := rfl
@[simp] theorem beginGrant_clock (r : Requester) : (beginGrant r s).clock = s.clock := rfl
@[simp] theorem beginGrant_line (r : Requester) : (beginGrant r s).line = s.line := rfl
@[simp] theorem beginGrant_log (r : Requester) : (beginGrant r s).log = s.log := rfl
@[simp] theorem beginGrant_report (r : Requester) : (beginGrant r s).report = s.report := rfl
@[simp] theorem beginGrant_table_slots (r : Requester) : (beginGrant r s).table.slots = s.table.slots := rfl
@[simp] theorem beginGrant_table_pending (r : Requester) : (beginGrant r s).table.pending = s.table.pending := rfl
@[simp] theorem beginGrant_table_settle (r : Requester) : (beginGrant r s).table.settle = s.table.settle := rfl
@[simp] theorem beginGrant_table_watch (r : Requester) : (beginGrant r s).table.watch = s.table.watch := rfl
@[simp] theorem beginGrant_table_trap (r : Requester) : (beginGrant r s).table.trap = s.table.trap := rfl
@[simp] theorem beginGrant_table_bypass (r : Requester) :
    (beginGrant r s).table.bypass = ⟨passedOver s r .loc, passedOver s r .line, passedOver s r .timer, passedOver s r .port⟩ :=
  rfl
@[simp] theorem beginGrant_table_reclaimed (r : Requester) : (beginGrant r s).table.reclaimed = s.table.reclaimed := rfl
@[simp] theorem beginGrant_table_untracked (r : Requester) : (beginGrant r s).table.untracked = s.table.untracked := rfl
@[simp] theorem beginGrant_table_dropped (r : Requester) : (beginGrant r s).table.dropped = s.table.dropped := rfl
@[simp] theorem beginGrant_table_watchFull (r : Requester) : (beginGrant r s).table.watchFull = s.table.watchFull := rfl

@[simp] theorem settleCounts_pending : (settleCounts s).pending = s.pending := rfl
@[simp] theorem settleCounts_now : (settleCounts s).now = s.now := rfl
@[simp] theorem settleCounts_station : (settleCounts s).station = s.station := rfl
@[simp] theorem settleCounts_channels : (settleCounts s).channels = s.channels := rfl
@[simp] theorem settleCounts_gather : (settleCounts s).gather = s.gather := rfl
@[simp] theorem settleCounts_clock : (settleCounts s).clock = s.clock := rfl
@[simp] theorem settleCounts_line : (settleCounts s).line = s.line := rfl
@[simp] theorem settleCounts_log : (settleCounts s).log = s.log := rfl
@[simp] theorem settleCounts_report : (settleCounts s).report = s.report := rfl
@[simp] theorem settleCounts_table_slots : (settleCounts s).table.slots = s.table.slots := rfl
@[simp] theorem settleCounts_table_pending : (settleCounts s).table.pending = s.table.pending := rfl
@[simp] theorem settleCounts_table_settle : (settleCounts s).table.settle = s.table.settle := rfl
@[simp] theorem settleCounts_table_watch : (settleCounts s).table.watch = s.table.watch := rfl
@[simp] theorem settleCounts_table_trap : (settleCounts s).table.trap = s.table.trap := rfl
@[simp] theorem settleCounts_table_bypass :
    (settleCounts s).table.bypass = ⟨countIfWaiting s .loc, countIfWaiting s .line, countIfWaiting s .timer, countIfWaiting s .port⟩ :=
  rfl
@[simp] theorem settleCounts_table_reclaimed : (settleCounts s).table.reclaimed = s.table.reclaimed := rfl
@[simp] theorem settleCounts_table_untracked : (settleCounts s).table.untracked = s.table.untracked := rfl
@[simp] theorem settleCounts_table_dropped : (settleCounts s).table.dropped = s.table.dropped := rfl
@[simp] theorem settleCounts_table_watchFull : (settleCounts s).table.watchFull = s.table.watchFull := rfl

/-! ## Station control -/

@[simp] theorem enterHalting_pending : (enterHalting s).pending = s.pending := rfl
@[simp] theorem enterHalting_now : (enterHalting s).now = s.now := rfl
@[simp] theorem enterHalting_channels : (enterHalting s).channels = s.channels := rfl
@[simp] theorem enterHalting_gather : (enterHalting s).gather = s.gather := rfl
@[simp] theorem enterHalting_clock : (enterHalting s).clock = s.clock := rfl
@[simp] theorem enterHalting_line : (enterHalting s).line = s.line := rfl
@[simp] theorem enterHalting_table : (enterHalting s).table = s.table := rfl
@[simp] theorem enterHalting_log : (enterHalting s).log = s.log := rfl
@[simp] theorem enterHalting_report : (enterHalting s).report = s.report := rfl
@[simp] theorem enterHalting_station_conf : (enterHalting s).station.conf = s.station.conf := rfl
@[simp] theorem enterHalting_station_mode : (enterHalting s).station.mode = .halting := rfl
@[simp] theorem enterHalting_station_clearingDue : (enterHalting s).station.clearingDue = s.station.clearingDue := rfl
@[simp] theorem enterHalting_station_haltDue : (enterHalting s).station.haltDue = false := rfl
@[simp] theorem enterHalting_station_fault : (enterHalting s).station.fault = s.station.fault := rfl
@[simp] theorem enterHalting_station_clamped : (enterHalting s).station.clamped = s.station.clamped := rfl

@[simp] theorem enterRunning_pending : (enterRunning s).pending = s.pending := rfl
@[simp] theorem enterRunning_now : (enterRunning s).now = s.now := rfl
@[simp] theorem enterRunning_channels : (enterRunning s).channels = s.channels := rfl
@[simp] theorem enterRunning_gather : (enterRunning s).gather = s.gather := rfl
@[simp] theorem enterRunning_clock : (enterRunning s).clock = s.clock := rfl
@[simp] theorem enterRunning_line : (enterRunning s).line = s.line := rfl
@[simp] theorem enterRunning_table : (enterRunning s).table = s.table := rfl
@[simp] theorem enterRunning_log : (enterRunning s).log = s.log := rfl
@[simp] theorem enterRunning_report : (enterRunning s).report = s.report := rfl
@[simp] theorem enterRunning_station_conf : (enterRunning s).station.conf = s.station.conf := rfl
@[simp] theorem enterRunning_station_mode : (enterRunning s).station.mode = .running := rfl
@[simp] theorem enterRunning_station_clearingDue : (enterRunning s).station.clearingDue = none := rfl
@[simp] theorem enterRunning_station_haltDue : (enterRunning s).station.haltDue = s.station.haltDue := rfl
@[simp] theorem enterRunning_station_fault : (enterRunning s).station.fault = s.station.fault := rfl
@[simp] theorem enterRunning_station_clamped : (enterRunning s).station.clamped = s.station.clamped := rfl

end Sys2Proof.Machine
end

