-- ==== Sys2Proof/Laws/Ops.lean ====
section
/-! SUPPORT. What each shared operation does: rounding and station time, registers read after they are written, faults, records, the
passing log, and the answers of the port. -/

namespace Sys2Proof.Machine

/-! ## Station time and rounding -/

theorem timeDiff_self (t : Time) : timeDiff t t = 0 := by simp [timeDiff]

theorem isBefore_self (t : Time) : isBefore t t = false := by simp [isBefore, timeDiff_self]

theorem reached_self (t : Time) : reached t t = true := by simp [reached, isBefore_self]

theorem later_zero (t : Time) : later t 0 = t := by simp [later]

/-- A time less than half the range later lies that far off. -/
theorem timeDiff_later (t : Time) (d : Nat) (h : d < 140737488355328) : timeDiff (later t d) t = d := by
  have hd : later t d - t = BitVec.ofNat 48 d := by unfold later; bv_omega
  rw [timeDiff, hd, BitVec.toInt_eq_toNat_cond, BitVec.toNat_ofNat, Nat.mod_eq_of_lt (by omega)]
  split <;> omega

/-- Rounding to nearest with halves up, as the two bounds that fix it. -/
theorem roundHalfUp_bounds (n d : Nat) (hd : 0 < d) :
    2 * d * roundHalfUp n d ≤ 2 * n + d ∧ 2 * n + d < 2 * d * (roundHalfUp n d + 1) := by
  unfold roundHalfUp
  exact ⟨Nat.mul_div_le _ _, Nat.lt_mul_div_succ _ (by omega)⟩

/-- Rounding to nearest with halves away from zero: within half of the divisor, and away from zero at exactly half. -/
theorem roundHalfAway_bounds (x : Int) (d : Nat) (hd : 0 < d) :
    (2 * (d * roundHalfAway x d - x)).natAbs ≤ d ∧ x.natAbs < d * (roundHalfAway x d).natAbs + d := by
  have h := roundHalfUp_bounds x.natAbs d hd
  rw [Nat.mul_add, Nat.mul_one, Nat.mul_assoc] at h
  unfold roundHalfAway
  split <;> push_cast [Int.natAbs_neg, Int.natAbs_natCast, Int.mul_neg] <;>
    (generalize hq : roundHalfUp x.natAbs d = q at *
     have hz : ((d * q : Nat) : Int) = (d : Int) * q := Int.natCast_mul d q
     generalize d * q = m at *
     try rw [← hz]
     omega)

theorem countUp_eq (n : Nat) (h : n ≤ 65535) : countUp n = min 65535 (n + 1) := by
  unfold countUp Config.countLimit
  split <;> omega

theorem countUp_le (n : Nat) (h : n ≤ 65535) : countUp n ≤ 65535 := by rw [countUp_eq n h]; omega

/-! ## Registers by number: read after write -/

@[simp] theorem ofChannel_putChannel_same {α : Type} (p : PerChannel α) (ch : Channel) (x : α) :
    ofChannel (putChannel p ch x) ch = x := by cases ch <;> rfl

theorem ofChannel_putChannel_other {α : Type} (p : PerChannel α) (ch k : Channel) (x : α) (h : k ≠ ch) :
    ofChannel (putChannel p ch x) k = ofChannel p k := by cases ch <;> cases k <;> first | rfl | exact absurd rfl h

@[simp] theorem guardOf_setGuard_same (s : State) (ch : Channel) (g : Guard) : guardOf (setGuard ch g s) ch = g :=
  ofChannel_putChannel_same _ _ _

theorem guardOf_setGuard_other (s : State) (ch k : Channel) (g : Guard) (h : k ≠ ch) :
    guardOf (setGuard ch g s) k = guardOf s k := ofChannel_putChannel_other _ _ _ _ h

@[simp] theorem slotOf_setSlot_same (s : State) (i : SlotNo) (x : Slot) : slotOf (setSlot i x s) i = x := by
  simp [slotOf, setSlot]

theorem slotOf_setSlot_other (s : State) (i j : SlotNo) (x : Slot) (h : j ≠ i) : slotOf (setSlot i x s) j = slotOf s j := by
  have : i.val ≠ j.val := fun e => h (Fin.ext e.symm)
  simp [slotOf, setSlot, this]

@[simp] theorem peerOf_setPeer_same (s : State) (k : Fin 31) (r : PeerRecord) : peerOf (setPeer k r s) k = r := by
  simp [peerOf, setPeer]

theorem peerOf_setPeer_other (s : State) (k j : Fin 31) (r : PeerRecord) (h : j ≠ k) : peerOf (setPeer k r s) j = peerOf s j := by
  have : k.val ≠ j.val := fun e => h (Fin.ext e.symm)
  simp [peerOf, setPeer, this]

/-- A station number has a peer record exactly in 1..31. -/
theorem peerIndex_eq_some (n : Nat) (k : Fin 31) : peerIndex n = some k ↔ n = k.val + 1 := by
  unfold peerIndex
  split
  · rename_i h
    simp only [Option.some.injEq, Fin.ext_iff]
    omega
  · rename_i h
    have := k.isLt
    simp only [reduceCtorEq, false_iff]
    omega

/-! ## ATTN, faults and records -/

theorem attnHolds_judgeAttn (s : State) : attnHolds (judgeAttn s) = attnHolds s := rfl

theorem judgeAttn_attn (s : State) : (judgeAttn s).report.attn = true ↔
    s.station.fault.isSome = true ∨ s.report.overrun.isSome = true ∨ ∃ p, s.station.conf = some p ∧ fifoCalls p s = true := by
  show attnHolds s = true ↔ _
  unfold attnHolds
  cases s.station.conf <;> simp [or_assoc]

/-- A fault offered: the capture locks or sets LOST, ATTN is asserted, and nothing else changes. -/
theorem offerFault_eq (code : FaultCode) (detail : Option Nat) (s : State) :
    offerFault code detail s = { s with
      station := { s.station with fault := some (captureFault code detail s.now s.station.fault) }
      report := { s.report with attn := true } } := rfl

/-- A record offered to a FIFO with room. -/
theorem offerRecord_room (b : RecordBody) (s : State) (h : s.report.fifo.length < 128) :
    offerRecord b s = judgeAttn { s with report :=
      { s.report with fifo := s.report.fifo ++ [{ issued := s.now, body := b }], port := wakeReader s.report.port } } := by
  unfold offerRecord enterRecord
  rw [if_pos h]

/-- A record offered to a full FIFO. -/
theorem offerRecord_full (b : RecordBody) (s : State) (h : 128 ≤ s.report.fifo.length) :
    offerRecord b s = judgeAttn { s with report :=
      { s.report with overrun := some (captureOverrun { issued := s.now, body := b } s.report.overrun) } } := by
  unfold offerRecord enterRecord
  rw [if_neg (by simp only [Config.fifoPlaces]; omega)]

/-- Whatever a record does, it does to the report port's block alone, and the transaction stands. -/
theorem offerRecord_frame (b : RecordBody) (s : State) :
    offerRecord b s = { s with report := (offerRecord b s).report } ∧
      (offerRecord b s).report.transaction = s.report.transaction := by
  refine ⟨rfl, ?_⟩
  by_cases h : s.report.fifo.length < 128
  · rw [offerRecord_room b s h]; rfl
  · rw [offerRecord_full b s (by omega)]; rfl

theorem offerRecord_fifo_le (b : RecordBody) (s : State) (h : s.report.fifo.length ≤ 128) :
    (offerRecord b s).report.fifo.length ≤ 128 := by
  by_cases hr : s.report.fifo.length < 128
  · rw [offerRecord_room b s hr]; simp; omega
  · rw [offerRecord_full b s (by omega)]; simpa using h

@[simp] theorem offerRecords_nil (s : State) : offerRecords [] s = s := rfl

@[simp] theorem offerRecords_cons (b : RecordBody) (bs : List RecordBody) (s : State) :
    offerRecords (b :: bs) s = offerRecords bs (offerRecord b s) := rfl

/-- Whatever records do, they do to the report port's block alone. -/
theorem offerRecords_frame (bs : List RecordBody) (s : State) :
    offerRecords bs s = { s with report := (offerRecords bs s).report } := by
  induction bs generalizing s with
  | nil => rfl
  | cons b bs ih =>
    rw [offerRecords_cons, ih (offerRecord b s)]
    rw [(offerRecord_frame b s).1]

/-! ## The passing log -/

/-- A draw: none while EXHAUSTED; otherwise the counter's number, whose place is reserved. -/
theorem drawNumber_cases (s : State) :
    (s.log.counter = none ∧ drawNumber s = (none, s)) ∨
    (∃ n, s.log.counter = some n ∧ n < 4294967295 ∧ drawNumber s = (some n, { s with log := drawBlock n s.log })) ∨
    (∃ n, s.log.counter = some n ∧ 4294967295 ≤ n ∧ drawNumber s = (some n, exhaust { s with log := drawBlock n s.log })) := by
  unfold drawNumber
  cases hc : s.log.counter with
  | none => exact .inl ⟨rfl, rfl⟩
  | some n =>
    by_cases hn : n < 4294967295
    · exact .inr (.inl ⟨n, rfl, hn, by simp [Config.lastNumber, hn]⟩)
    · exact .inr (.inr ⟨n, rfl, by omega, by simp [Config.lastNumber, hn]⟩)

/-- The exhaustion of the counter offers its fault, and owes a HALT in RUNNING alone; nothing else changes. -/
theorem exhaust_eq (s : State) : exhaust s = { s with
    station := { s.station with
      fault := some (captureFault .numbersExhausted none s.now s.station.fault)
      haltDue := if isRunning s then true else s.station.haltDue }
    report := { s.report with attn := true } } := by
  unfold exhaust
  cases isRunning s <;> rfl

/-- A place is in the ring after a draw exactly if it is the reserved one, or was there with another remainder modulo 2048. -/
theorem mem_reservePlace (n : Nat) (l : List LogPlace) (q : LogPlace) :
    q ∈ reservePlace n l ↔ (q ∈ l ∧ q.number % 2048 ≠ n % 2048) ∨ q = { number := n, entry := none } := by
  simp [reservePlace, Config.logPlaces]

@[simp] theorem changePlace_number (n : Nat) (f : LogEntry → LogEntry) (q : LogPlace) : (changePlace n f q).number = q.number := by
  unfold changePlace; split <;> rfl

@[simp] theorem fillPlace_number (n : Nat) (e : LogEntry) (q : LogPlace) : (fillPlace n e q).number = q.number := by
  unfold fillPlace; split <;> rfl

/-- A search by number meets the same place after the places are changed and keep their numbers. -/
theorem find_place_map (n : Nat) (g : LogPlace → LogPlace) (hg : ∀ q, (g q).number = q.number) (l : List LogPlace) :
    (l.map g).find? (fun q => q.number == n) = (l.find? (fun q => q.number == n)).map g := by
  induction l with
  | nil => rfl
  | cons q l ih =>
    simp only [List.map_cons, List.find?_cons, hg]
    split
    · rfl
    · exact ih

/-- An entry after an update of its own number. -/
theorem logEntry_updateLog_same (n : Nat) (f : LogEntry → LogEntry) (s : State) :
    logEntry (updateLog n f s) n = (logEntry s n).map f := by
  unfold logEntry
  rw [updateLog_log_places, find_place_map n _ (changePlace_number n f)]
  cases h : s.log.places.find? (fun q => q.number == n) with
  | none => rfl
  | some q =>
    have hq : q.number = n := by simpa using List.find?_some h
    simp [changePlace, hq]

/-- An entry after an update of another number. -/
theorem logEntry_updateLog_other (n m : Nat) (f : LogEntry → LogEntry) (s : State) (hm : m ≠ n) :
    logEntry (updateLog n f s) m = logEntry s m := by
  unfold logEntry
  rw [updateLog_log_places, find_place_map m _ (changePlace_number n f)]
  cases h : s.log.places.find? (fun q => q.number == m) with
  | none => rfl
  | some q =>
    have hq : q.number = m := by simpa using List.find?_some h
    simp [changePlace, hq, hm]

/-- An entry after it is written into the place reserved for it. -/
theorem logEntry_writeLog_same (n : Nat) (e : LogEntry) (s : State) (h : ∃ q ∈ s.log.places, q.number = n) :
    logEntry (writeLog n e s) n = some e := by
  unfold logEntry
  rw [writeLog_log_places, find_place_map n _ (fillPlace_number n e)]
  cases hf : s.log.places.find? (fun q => q.number == n) with
  | none =>
    obtain ⟨q, hq, hn⟩ := h
    exact absurd hn (by simpa using List.find?_eq_none.mp hf q hq)
  | some q =>
    have hq : q.number = n := by simpa using List.find?_some hf
    simp [fillPlace, hq]

/-- An entry after another number is written. -/
theorem logEntry_writeLog_other (n m : Nat) (e : LogEntry) (s : State) (hm : m ≠ n) :
    logEntry (writeLog n e s) m = logEntry s m := by
  unfold logEntry
  rw [writeLog_log_places, find_place_map m _ (fillPlace_number n e)]
  cases h : s.log.places.find? (fun q => q.number == m) with
  | none => rfl
  | some q =>
    have hq : q.number = m := by simpa using List.find?_some h
    simp [fillPlace, hq, hm]

/-! ## Answers of the port -/

theorem respond_eq (r : Response) (s : State) : respond r s = { s with report :=
    { s.report with
      transaction := some { response := r, frame := responseFrame r, collects := false, takes := 0 } } } := rfl

/-- A command of a held kind: refused, held or BUSY. -/
theorem takeHeld_cases (atOnce : Option Response) (cmd : PortCommand) (s : State) :
    (∃ r, s.report.port = .ready ∧ atOnce = some r ∧ takeHeld atOnce cmd s = respond r s) ∨
    (s.report.port = .ready ∧ atOnce = none ∧
      takeHeld atOnce cmd s = respond (bare .notReady) (setPort (.working (.request cmd s.now)) s)) ∨
    (s.report.port ≠ .ready ∧ takeHeld atOnce cmd s = respond (bare .busy) s) := by
  unfold takeHeld
  cases hp : s.report.port with
  | ready =>
    cases atOnce with
    | none => exact .inr (.inl ⟨rfl, rfl, rfl⟩)
    | some r => exact .inl ⟨r, rfl, rfl, rfl⟩
  | working h => exact .inr (.inr ⟨by simp, rfl⟩)
  | done m => exact .inr (.inr ⟨by simp, rfl⟩)

/-- Whatever becomes of a command of a held kind, only the port's state and the transaction change. -/
theorem takeHeld_frame (atOnce : Option Response) (cmd : PortCommand) (s : State) :
    ∃ port transaction, takeHeld atOnce cmd s = { s with report := { s.report with port := port, transaction := transaction } } := by
  obtain ⟨r, -, -, h⟩ | ⟨-, -, h⟩ | ⟨-, h⟩ := takeHeld_cases atOnce cmd s <;> exact ⟨_, _, h⟩

/-! ## Operands -/

theorem clamp_bounds (lo hi v : Nat) (h : lo ≤ hi) : lo ≤ clamp lo hi v ∧ clamp lo hi v ≤ hi := by
  unfold clamp; omega

theorem clamp_of_mem (lo hi v : Nat) (h : lo ≤ v ∧ v ≤ hi) : clamp lo hi v = v := by
  unfold clamp; omega

/-- A clamped filter width is 2, 4 or 8, no further from the value than either other, and the greater of two equally near. -/
theorem clampWidth_nearest (w : Nat) :
    (clampWidth w = 2 ∧ w < 3) ∨ (clampWidth w = 4 ∧ 3 ≤ w ∧ w < 6) ∨ (clampWidth w = 8 ∧ 6 ≤ w) := by
  unfold clampWidth
  split
  · simp_all
  · split <;> simp_all

theorem transponderValid_iff (t : Nat) : transponderValid t = true ↔ 1 ≤ t ∧ t ≤ 16777214 := by
  simp [transponderValid, Config.lastTransponder]

theorem numberValid_iff (n : Nat) : numberValid n = true ↔ 1 ≤ n ∧ n ≤ 4294967295 := by
  simp [numberValid, Config.lastNumber]

theorem timeValid_iff (t : Nat) : timeValid t = true ↔ t < 281474976710656 := by simp [timeValid]

/-! ## The flag word -/

@[simp] theorem hasFlag_addFlag_same (w : Flags) (f : Flag) : hasFlag (addFlag w f) f = true := by
  cases f <;> simp [hasFlag, addFlag, flagWord, flagBit]

theorem hasFlag_addFlag_other (w : Flags) (f g : Flag) (h : g ≠ f) : hasFlag (addFlag w f) g = hasFlag w g := by
  cases f <;> cases g <;> first | exact absurd rfl h | simp [hasFlag, addFlag, flagWord, flagBit]

@[simp] theorem hasFlag_dropFlag_same (w : Flags) (f : Flag) : hasFlag (dropFlag w f) f = false := by
  cases f <;> simp [hasFlag, dropFlag, flagWord, flagBit]

theorem hasFlag_dropFlag_other (w : Flags) (f g : Flag) (h : g ≠ f) : hasFlag (dropFlag w f) g = hasFlag w g := by
  cases f <;> cases g <;> first | exact absurd rfl h | simp [hasFlag, dropFlag, flagWord, flagBit]

/-! ## Delivery and what the port sends -/

/-- Delivery changes the report port alone: the records leave, a made response is collected, and the code byte is gone. -/
theorem deliver_frame (x : Transaction) (s : State) :
    deliver x s = { s with report := { s.report with
      fifo := s.report.fifo.drop x.takes
      port := if x.collects then .ready else s.report.port
      transaction := some { x with frame := x.frame.tail, delivered := true }
      attn := (deliver x s).report.attn } } := rfl

@[simp] theorem unsentBytes_deliver (x : Transaction) (s : State) : unsentBytes (deliver x s) = x.frame.tail := rfl

/-- The bytes sent after a request: those of the response that are left, and the filler behind them. -/
theorem sentAfterRequest_eq (s : State) (n : Nat) :
    sentAfterRequest s n = (unsentBytes s).take n ++ List.replicate (n - (unsentBytes s).length) filler := by
  rw [sentAfterRequest, List.take_append, List.take_replicate]
  congr 2
  omega

end Sys2Proof.Machine
end

