-- ==== Sys2Proof/Laws/Line.lean ====
section
/-! SUPPORT. What the operations of the line controller and of the pass gatherer do. -/

namespace Sys2Proof.Machine

/-! ## Bits on the line -/

@[simp] theorem bitsByte_byteBits (b : Byte) : bitsByte (byteBits b) = b := by revert b; decide +kernel

/-- The bits of whole bytes make the bytes they came from. -/
@[simp] theorem lineBytes_lineBits (bs : List Byte) : lineBytes (lineBits bs) = bs := by
  induction bs with
  | nil => rfl
  | cons b bs ih =>
    show bitsByte (byteBits b) :: lineBytes (lineBits bs) = b :: bs
    rw [bitsByte_byteBits, ih]

/-- The receive path aligns on the delimiter behind the preamble, whatever bits follow it. -/
theorem afterDelimiter_frameLead (bits : List Bool) : afterDelimiter (lineBits frameLead ++ bits) = some bits := rfl

/-- The receive path takes the bytes behind the delimiter of a frame that arrives whole. -/
theorem receiveFrame_buildFrame (origin position : Nat) (send : Time) (b : NoticeBody) :
    receiveFrame (buildFrame origin position send b) =
      noticeOfBytes (frameCore origin position send b ++ toBytes 2 (crc (frameCore origin position send b)).toNat) := by
  have h : buildFrame origin position send b = lineBits frameLead ++
      lineBits (frameCore origin position send b ++ toBytes 2 (crc (frameCore origin position send b)).toNat) := by
    simp [buildFrame, frameBytes, lineBits]
  rw [receiveFrame, h, afterDelimiter_frameLead, Option.bind_some, lineBytes_lineBits]

/-! ## The transmit queue -/

/-- A notice that takes its place adds itself and nothing else. -/
theorem enqueue_perm (n : Notice) (q : List Notice) : (enqueue n q).Perm (n :: q) := by
  unfold enqueue
  refine List.perm_middle.trans ?_
  rw [List.takeWhile_append_dropWhile]

@[simp] theorem mem_enqueue (n m : Notice) (q : List Notice) : m ∈ enqueue n q ↔ m = n ∨ m ∈ q := by
  rw [(enqueue_perm n q).mem_iff, List.mem_cons]

@[simp] theorem length_enqueue (n : Notice) (q : List Notice) : (enqueue n q).length = q.length + 1 := by
  rw [(enqueue_perm n q).length_eq, List.length_cons]

theorem countP_enqueue (f : Notice → Bool) (n : Notice) (q : List Notice) :
    (enqueue n q).countP f = q.countP f + if f n then 1 else 0 := by
  rw [(enqueue_perm n q).countP_eq, List.countP_cons]

theorem enqueueByEntry_perm (n : Notice) (q : List Notice) : (enqueueByEntry n q).Perm (n :: q) := by
  unfold enqueueByEntry
  refine List.perm_middle.trans ?_
  rw [List.takeWhile_append_dropWhile]

/-- The order of the classes is kept when a notice takes a place at the tail of its class. -/
theorem enqueue_ordered (n : Notice) (q : List Notice)
    (h : q.Pairwise (fun a b => classRank a.cls ≤ classRank b.cls)) :
    (enqueue n q).Pairwise (fun a b => classRank a.cls ≤ classRank b.cls) := by
  induction q with
  | nil => simp [enqueue]
  | cons m q ih =>
    have hm := List.pairwise_cons.mp h
    by_cases hc : classRank m.cls ≤ classRank n.cls
    · have he : enqueue n (m :: q) = m :: enqueue n q := by simp [enqueue, hc]
      rw [he, List.pairwise_cons]
      refine ⟨fun x hx => ?_, ih hm.2⟩
      rcases (mem_enqueue n x q).mp hx with rfl | hx
      · exact hc
      · exact hm.1 x hx
    · have he : enqueue n (m :: q) = n :: m :: q := by simp [enqueue, hc]
      rw [he, List.pairwise_cons]
      refine ⟨fun x hx => ?_, h⟩
      rcases List.mem_cons.mp hx with rfl | hx
      · omega
      · have := hm.1 x hx
        omega

/-- The lines of the station after the end of an attempt or of a wait. -/
theorem resumeLine_cases (s : State) :
    (s.line.queue = [] ∧ resumeLine s = enterListening s) ∨ (s.line.queue ≠ [] ∧ resumeLine s = enterDeferring s) := by
  unfold resumeLine
  cases h : s.line.queue with
  | nil => exact .inl ⟨rfl, by simp⟩
  | cons n q => exact .inr ⟨by simp, by simp⟩

/-- The moves that the queue alone brings about. -/
theorem settleLine_cases (s : State) :
    (s.line.state = .listening ∧ s.line.queue ≠ [] ∧ settleLine s = enterDeferring s) ∨
    (s.line.state = .deferring ∧ s.line.queue = [] ∧ settleLine s = enterListening s) ∨
    ((s.line.state = .listening → s.line.queue = []) ∧ (s.line.state = .deferring → s.line.queue ≠ []) ∧ settleLine s = s) := by
  unfold settleLine
  cases hs : s.line.state <;> cases hq : s.line.queue <;> simp

/-- Settling the line leaves its queue and every other block as they are. -/
theorem settleLine_frame (s : State) :
    settleLine s = { s with line := (settleLine s).line } ∧ (settleLine s).line.queue = s.line.queue := by
  obtain ⟨-, -, h⟩ | ⟨-, -, h⟩ | ⟨-, -, h⟩ := settleLine_cases s <;> rw [h] <;> exact ⟨rfl, rfl⟩

theorem resumeLine_frame (s : State) :
    resumeLine s = { s with line := (resumeLine s).line } ∧ (resumeLine s).line.queue = s.line.queue := by
  obtain ⟨-, h⟩ | ⟨-, h⟩ := resumeLine_cases s <;> rw [h] <;> exact ⟨rfl, rfl⟩

theorem timedRoom_iff (q : List Notice) : timedRoom q = true ↔ q.length < 24 ∧ q.countP isTimed < 8 := by
  simp [timedRoom, Config.transmitPlaces, Config.timedPlaces]

/-- A PASSING or REVISE notice offered: it takes a place in the High class, or its log entry is marked UNSENT. -/
theorem offerHigh_cases (n : Nat) (b : NoticeBody) (o : Owed) (s : State) :
    (s.line.queue.length < 24 ∧
      offerHigh n b o s = settleLine (setQueue (enqueue (freshNotice b .high s.now) s.line.queue) s)) ∨
    (24 ≤ s.line.queue.length ∧ offerHigh n b o s = markUnsent n o s) := by
  unfold offerHigh
  by_cases h : s.line.queue.length < Config.transmitPlaces
  · exact .inl ⟨h, by rw [if_pos h]⟩
  · exact .inr ⟨Nat.le_of_not_lt h, by rw [if_neg h]⟩

/-- An offer of a PASSING or REVISE notice changes the line and the log alone. -/
theorem offerHigh_frame (n : Nat) (b : NoticeBody) (o : Owed) (s : State) :
    offerHigh n b o s = { s with line := (offerHigh n b o s).line, log := (offerHigh n b o s).log } := by
  obtain ⟨-, h⟩ | ⟨-, h⟩ := offerHigh_cases n b o s <;> rw [h]
  · rw [(settleLine_frame _).1]; rfl
  · rfl

theorem pullUnsent_frame (s : State) : pullUnsent s = { s with line := (pullUnsent s).line, log := (pullUnsent s).log } := by
  unfold pullUnsent
  split
  · rfl
  · split
    · rfl
    · rw [(settleLine_frame _).1]; rfl

/-- A revision changes the line and the log alone. -/
theorem offerRevision_frame (x transponder : Nat) (r : Revision) (s : State) :
    offerRevision x transponder r s =
      { s with line := (offerRevision x transponder r s).line, log := (offerRevision x transponder r s).log } := by
  unfold offerRevision
  split
  · unfold reviseUnsent; split <;> rfl
  · split
    · dsimp only
      split
      · rw [(settleLine_frame _).1, pullUnsent_frame]; rfl
      · rfl
    · exact offerHigh_frame _ _ _ _

/-- The number of back-off slots is below 2 to the collision count, at most 64. -/
theorem backoffSlots_lt (n draw : Nat) : backoffSlots n draw < 2 ^ min n 6 := Nat.mod_lt _ (Nat.two_pow_pos _)

/-! ## The pass gatherer -/

theorem findLive_holds (k : PassKey) (s : State) (e : Entry) (h : findLive k s = some e) :
    e ∈ s.gather.entries ∧ e.state ≠ .closing ∧ e.key = k := by
  have := List.find?_some h
  refine ⟨List.mem_of_find?_eq_some h, ?_⟩
  simpa [holdsKey, isLive] using this

@[simp] theorem length_updateLive (k : PassKey) (f : Entry → Entry) (es : List Entry) : (updateLive k f es).length = es.length := by
  simp [updateLive]

theorem evenPlaces_length : ∀ l : List StoredHit, (evenPlaces l).length = (l.length + 1) / 2
  | [] => by simp [evenPlaces]
  | [_] => by simp [evenPlaces]
  | _ :: _ :: l => by simp only [evenPlaces, List.length_cons, evenPlaces_length l]; omega

theorem evenPlaces_head (l : List StoredHit) : (evenPlaces l).head? = l.head? := by
  match l with
  | [] => simp [evenPlaces]
  | [_] => simp [evenPlaces]
  | _ :: _ :: _ => simp [evenPlaces]

/-- A closing accepted: the oldest one's item takes the tail of a local passing queue with room. -/
theorem acceptClosing_cases (p : Params) (s : State) :
    (∃ e, s.gather.queue.length < 16 ∧ oldestClosing s.gather.entries = some e ∧
      acceptClosing p s =
        { s with gather := { s.gather with queue := s.gather.queue ++ [itemOf e], entries := afterAcceptance p e s } }) ∨
    ((16 ≤ s.gather.queue.length ∨ oldestClosing s.gather.entries = none) ∧ acceptClosing p s = s) := by
  unfold acceptClosing
  by_cases hq : s.gather.queue.length < Config.localPlaces
  · cases he : oldestClosing s.gather.entries with
    | none => exact .inr ⟨.inr rfl, by simp⟩
    | some e => exact .inl ⟨e, hq, rfl, by rw [if_pos hq]⟩
  · exact .inr ⟨.inl (Nat.le_of_not_lt hq), by rw [if_neg hq]⟩

/-- The acceptance of a closing changes the gatherer alone. -/
theorem acceptClosing_frame (p : Params) (s : State) : acceptClosing p s = { s with gather := (acceptClosing p s).gather } := by
  obtain ⟨e, -, -, h⟩ | ⟨-, h⟩ := acceptClosing_cases p s <;> rw [h]

/-- The oldest waiting closing is one. -/
theorem oldestClosing_mem (es : List Entry) (e : Entry) (h : oldestClosing es = some e) : e ∈ es ∧ e.state = .closing := by
  induction es generalizing e with
  | nil => cases h
  | cons x xs ih =>
    unfold oldestClosing at h
    split at h
    · rename_i hx
      cases hk : oldestClosing xs with
      | none => rw [hk] at h; cases h; exact ⟨List.mem_cons_self, hx⟩
      | some f =>
        simp only [hk] at h
        split at h <;> cases h
        · exact ⟨List.mem_cons_of_mem _ (ih _ hk).1, (ih _ hk).2⟩
        · exact ⟨List.mem_cons_self, hx⟩
    · exact ⟨List.mem_cons_of_mem _ (ih _ h).1, (ih _ h).2⟩

/-! ## Receiving -/

/-- An item offered to the intake: it takes the tail, or LINE_OVERRUN is set. -/
theorem offerIntake_eq (x : IntakeItem) (s : State) : offerIntake x s = { s with line :=
    if s.line.intake.length < 32 then { s.line with intake := s.line.intake ++ [x] } else { s.line with overrun := true } } := by
  unfold offerIntake Config.intakePlaces
  split <;> rfl

end Sys2Proof.Machine
end

