-- ==== Sys2Proof/Laws/Table.lean ====
section
/-! SUPPORT. What the operations over the competitor table do: lists kept by time, lookups, links, allocation, the TIMER queue and the
grants. -/

namespace Sys2Proof.Machine

/-! ## Lists kept by time -/

/-- An entry that takes its place adds itself and nothing else. -/
theorem insertByTime_perm {α : Type} (time : α → Time) (x : α) (l : List α) : (insertByTime time x l).Perm (x :: l) := by
  unfold insertByTime
  refine List.perm_middle.trans ?_
  rw [List.takeWhile_append_dropWhile]

@[simp] theorem mem_insertByTime {α : Type} (time : α → Time) (x y : α) (l : List α) :
    y ∈ insertByTime time x l ↔ y = x ∨ y ∈ l := by
  rw [(insertByTime_perm time x l).mem_iff, List.mem_cons]

@[simp] theorem length_insertByTime {α : Type} (time : α → Time) (x : α) (l : List α) :
    (insertByTime time x l).length = l.length + 1 := by
  rw [(insertByTime_perm time x l).length_eq, List.length_cons]

/-- A search that only the new entry satisfies finds it. -/
theorem find_insertByTime {α : Type} (time : α → Time) (f : α → Bool) (x : α) (l : List α) (hx : f x = true)
    (hl : ∀ y ∈ l, f y = false) : (insertByTime time x l).find? f = some x := by
  have ht : (l.takeWhile (fun y => !isBefore (time x) (time y))).find? f = none :=
    List.find?_eq_none.mpr fun y hy => by simp [hl y ((List.takeWhile_prefix _).mem hy)]
  simp [insertByTime, List.find?_append, ht, hx]

/-! ## Lookups -/

theorem findSlot_some_holds (f : Slot → Bool) (s : State) (i : SlotNo) (h : findSlot f s = some i) : f (slotOf s i) = true := by
  have := List.find?_some h
  exact this

/-- A search finds the lowest slot number that satisfies the test. -/
theorem findSlot_eq_some (f : Slot → Bool) (s : State) (i : SlotNo) :
    findSlot f s = some i ↔ f (slotOf s i) = true ∧ ∀ j, j < i → f (slotOf s j) = false := by
  have least : ∀ k, findSlot f s = some k → ∀ j, j < k → f (slotOf s j) = false := by
    intro k hk j hj
    obtain ⟨-, as, bs, hl, has⟩ := List.find?_eq_some_iff_append.mp hk
    have hs : (List.finRange 128).Pairwise (· < ·) := List.pairwise_lt_finRange 128
    rw [hl, List.pairwise_append] at hs
    have hj' : j ∈ as ++ k :: bs := hl ▸ List.mem_finRange j
    rcases List.mem_append.mp hj' with hm | hm
    · simpa using has j hm
    · rcases List.mem_cons.mp hm with rfl | hb
      · exact absurd hj (lt_irrefl _)
      · exact absurd (hj.trans (List.rel_of_pairwise_cons hs.2.1 hb)) (lt_irrefl _)
  refine ⟨fun h => ⟨findSlot_some_holds f s i h, least i h⟩, fun ⟨hi, hl⟩ => ?_⟩
  cases hk : findSlot f s with
  | none => exact absurd hi (by simpa using List.find?_eq_none.mp hk i (List.mem_finRange i))
  | some k =>
    rcases lt_trichotomy i k with h | h | h
    · exact absurd hi (by simp [least k hk i h])
    · rw [h]
    · exact absurd (findSlot_some_holds f s k hk) (by simp [hl k h])

theorem findSlot_eq_none (f : Slot → Bool) (s : State) : findSlot f s = none ↔ ∀ i, f (slotOf s i) = false := by
  simp [findSlot]

/-- The slot that a lookup finds is not FREE and holds the transponder. -/
theorem slotFor_some_holds (t : Nat) (s : State) (i : SlotNo) (h : slotFor t s = some i) :
    (slotOf s i).state ≠ .free ∧ (slotOf s i).transponder = some t := by
  simpa [holdsTransponder] using findSlot_some_holds _ s i h

/-- A search among slots is unchanged where the slots are. -/
theorem findSlot_congr (f : Slot → Bool) (s t : State) (h : t.table.slots = s.table.slots) : findSlot f t = findSlot f s := by
  unfold findSlot slotOf; rw [h]

/-- Slots changed one by one. -/
theorem mapSlots_get (f : Slot → Slot) (v : Vector Slot 128) (i : SlotNo) : (mapSlots f v)[i] = f v[i] := by
  simp [mapSlots, Vector.getElem_mk, Fin.getElem_fin]

/-! ## Links -/

@[simp] theorem pendingOf_removePending (i : SlotNo) (s : State) : pendingOf (removePending i s) i = none := by
  simp [pendingOf, removePending]

@[simp] theorem settleOf_removeSettle (i : SlotNo) (s : State) : settleOf (removeSettle i s) i = none := by
  simp [settleOf, removeSettle]

@[simp] theorem watchOf_removeWatch (i : SlotNo) (s : State) : watchOf (removeWatch i s) i = none := by
  simp [watchOf, removeWatch]

@[simp] theorem trapOf_removeTrap (i : SlotNo) (s : State) : trapOf (removeTrap i s) i = none := by
  simp [trapOf, removeTrap]

theorem pendingOf_addPending (e : PendingSector) (s : State) (h : pendingOf s e.slot = none) :
    pendingOf (addPending e s) e.slot = some e :=
  find_insertByTime _ _ e _ (by simp) fun y hy => by simpa using List.find?_eq_none.mp h y hy

theorem settleOf_addSettle (e : SettleEntry) (s : State) (h : settleOf s e.slot = none) :
    settleOf (addSettle e s) e.slot = some e :=
  find_insertByTime _ _ e _ (by simp) fun y hy => by simpa using List.find?_eq_none.mp h y hy

theorem watchOf_addWatch (e : Watch) (s : State) (h : watchOf s e.slot = none) : watchOf (addWatch e s) e.slot = some e :=
  find_insertByTime _ _ e _ (by simp) fun y hy => by simpa using List.find?_eq_none.mp h y hy

theorem trapOf_addTrap (e : TrapWait) (s : State) (h : trapOf s e.slot = none) : trapOf (addTrap e s) e.slot = some e :=
  find_insertByTime _ _ e _ (by simp) fun y hy => by simpa using List.find?_eq_none.mp h y hy

/-! ## Allocation -/

theorem longestIdle_mem (s : State) (l : List SlotNo) (i : SlotNo) (h : longestIdle s l = some i) : i ∈ l := by
  induction l generalizing i with
  | nil => cases h
  | cons k ks ih =>
    unfold longestIdle at h
    cases hk : longestIdle s ks with
    | none => rw [hk] at h; cases h; exact List.mem_cons_self
    | some j =>
      simp only [hk] at h
      split at h <;> cases h
      · exact List.mem_cons_of_mem _ (ih _ hk)
      · exact List.mem_cons_self

/-- The slot that reclaim takes is a candidate for it. -/
theorem reclaimSlot_reclaimable (s : State) (i : SlotNo) (h : reclaimSlot s = some i) : reclaimable s i = true :=
  (List.mem_filter.mp (longestIdle_mem s _ i h)).2

/-- A logged passing after slots are cleared or reclaimed: the same, but for the mark that its slot has been. -/
theorem logEntry_releaseSlots (gone : SlotNo → Bool) (s : State) (n : Nat) :
    logEntry (releaseSlots gone s) n = (logEntry s n).map (releaseEntry gone) := by
  unfold logEntry
  rw [releaseSlots_log_places, find_place_map n (fun q => { q with entry := q.entry.map (releaseEntry gone) }) (fun _ => rfl)]
  cases s.log.places.find? (fun q => q.number == n) <;> rfl

/-- Without a due item TIMER's bypass count is 0, and with one it stands; nothing else is touched. -/
theorem settleTimer_cases (s : State) :
    (dueItems s = [] ∧ settleTimer s = { s with table := { s.table with bypass := { s.table.bypass with timer := 0 } } }) ∨
    (dueItems s ≠ [] ∧ settleTimer s = s) := by
  unfold settleTimer
  cases dueItems s with
  | nil => exact .inl ⟨rfl, rfl⟩
  | cons x xs => exact .inr ⟨by simp, rfl⟩

/-- A slot given: the lowest FREE one, or without a FREE one a reclaimed one, which is counted. -/
theorem giveSlot_cases (t : Nat) (s r : State) (i : SlotNo) (h : giveSlot t s = some (i, r)) :
    (findSlot (fun x => x.state == .free) s = some i ∧ r = setSlot i (allocatedSlot t s.now) s) ∨
    (findSlot (fun x => x.state == .free) s = none ∧ reclaimSlot s = some i ∧
      r = reclaimFor t i s) := by
  unfold giveSlot at h
  cases hf : findSlot (fun x => x.state == .free) s with
  | some k => simp only [hf, Option.some.injEq, Prod.mk.injEq] at h; obtain ⟨rfl, rfl⟩ := h; exact .inl ⟨rfl, rfl⟩
  | none =>
    cases hr : reclaimSlot s with
    | none => simp [hf, hr] at h
    | some k =>
      simp only [hf, hr, Option.some.injEq, Prod.mk.injEq] at h
      obtain ⟨rfl, rfl⟩ := h
      exact .inr ⟨rfl, rfl, rfl⟩

/-- The slot of a passing: the transponder's own, or in OPEN admission one given to it. -/
theorem slotToProcess_cases (p : Params) (t : Nat) (s r : State) (i : SlotNo) (h : slotToProcess p t s = some (i, r)) :
    (slotFor t s = some i ∧ r = s) ∨ (slotFor t s = none ∧ p.admission = .anyone ∧ giveSlot t s = some (i, r)) := by
  unfold slotToProcess at h
  cases hf : slotFor t s with
  | some k => simp only [hf, Option.some.injEq, Prod.mk.injEq] at h; obtain ⟨rfl, rfl⟩ := h; exact .inl ⟨rfl, rfl⟩
  | none =>
    cases ha : p.admission with
    | anyone => rw [hf, ha] at h; exact .inr ⟨rfl, rfl, h⟩
    | rosterOnly => simp [hf, ha] at h

/-! ## The TIMER queue and the grants -/

theorem oldestDue_mem (l : List DueItem) (x : DueItem) (h : oldestDue l = some x) : x ∈ l := by
  induction l generalizing x with
  | nil => cases h
  | cons y ys ih =>
    unfold oldestDue at h
    cases hk : oldestDue ys with
    | none => rw [hk] at h; cases h; exact List.mem_cons_self
    | some z =>
      simp only [hk] at h
      split at h <;> cases h
      · exact List.mem_cons_of_mem _ (ih _ hk)
      · exact List.mem_cons_self

theorem oldestDue_eq_none (l : List DueItem) : oldestDue l = none ↔ l = [] := by
  cases l with
  | nil => simp [oldestDue]
  | cons y ys =>
    simp only [oldestDue, reduceCtorEq, iff_false]
    cases oldestDue ys with
    | none => simp
    | some z => simp only; split <;> simp

/-- A grant is made to the arbiter's choice where station control owes no HALT, and otherwise nothing happens. -/
theorem grantTo_cases (r : Requester) (work : Params → State → State) (s : State) :
    (∃ p, s.station.conf = some p ∧ s.station.haltDue = false ∧ choice p s = some r ∧
      grantTo r work s = endGrant s (work p (beginGrant r s))) ∨ grantTo r work s = s := by
  unfold grantTo
  cases hc : s.station.conf with
  | none => exact .inr rfl
  | some p =>
    by_cases h : s.station.haltDue = false ∧ choice p s = some r
    · exact .inl ⟨p, rfl, h.1, h.2, by simp [h]⟩
    · exact .inr (by simp only [if_neg h])

/-- A grant ends with every count kept where it halted the session, and otherwise with the counts of those that wait. -/
theorem endGrant_cases (s t : State) :
    (isRunning s = true ∧ isRunning t = false ∧ endGrant s t = t) ∨
      ((isRunning s = false ∨ isRunning t = true) ∧ endGrant s t = settleCounts t) := by
  unfold endGrant
  split <;> simp_all [← Bool.not_eq_true, or_iff_not_imp_left]

/-- Whatever ends at a grant, the bypass counts alone change. -/
theorem endGrant_frame (s t : State) :
    endGrant s t = { t with table := { t.table with bypass := (endGrant s t).table.bypass } } := by
  obtain ⟨-, -, h⟩ | ⟨-, h⟩ := endGrant_cases s t
  · rw [h]
  · rw [h]
    rfl

/-- Each count after a grant begins. -/
theorem bypassOf_beginGrant (g r : Requester) (s : State) : bypassOf (beginGrant g s).table.bypass r = passedOver s g r := by
  cases r <;> rfl

/-- Each count after a grant ends: 0 for a requester that does not wait. -/
theorem bypassOf_settleCounts (r : Requester) (s : State) : bypassOf (settleCounts s).table.bypass r = countIfWaiting s r := by
  cases r <;> rfl

end Sys2Proof.Machine
end

