-- ==== Sys2Proof/Laws/Pairing.lean ====
section
/-! SUPPORT. What the pairing unit, the forecast unit and the trap logic may change: the competitor table, the log, the report port and
the transmit queue, and nothing else but by a draw from the counter; and which slot is the slot of a passing. -/

namespace Sys2Proof.Machine

/-- `t` differs from `s` in the competitor table, the log, the report port and the line alone. -/
structure SparesRest (s t : State) : Prop where
  pending : t.pending = s.pending
  now : t.now = s.now
  station : t.station = s.station
  channels : t.channels = s.channels
  gather : t.gather = s.gather
  clock : t.clock = s.clock

theorem SparesRest.refl (s : State) : SparesRest s s := ⟨rfl, rfl, rfl, rfl, rfl, rfl⟩

theorem SparesRest.trans {s t u : State} (h : SparesRest s t) (k : SparesRest t u) : SparesRest s u :=
  ⟨k.pending.trans h.pending, k.now.trans h.now, k.station.trans h.station, k.channels.trans h.channels,
    k.gather.trans h.gather, k.clock.trans h.clock⟩

/-- An operation that spares the rest does so after another. -/
theorem SparesRest.andThen {s t : State} (h : SparesRest s t) {f : State → State} (k : ∀ u, SparesRest u (f u)) :
    SparesRest s (f t) := h.trans (k t)

/-! ## The shared operations -/

theorem setSlot_spares (i : SlotNo) (x : Slot) (s : State) : SparesRest s (setSlot i x s) := ⟨rfl, rfl, rfl, rfl, rfl, rfl⟩

theorem touchSlot_spares (i : SlotNo) (s : State) : SparesRest s (touchSlot i s) := setSlot_spares _ _ _

theorem removePending_spares (i : SlotNo) (s : State) : SparesRest s (removePending i s) := ⟨rfl, rfl, rfl, rfl, rfl, rfl⟩

theorem removeSettle_spares (i : SlotNo) (s : State) : SparesRest s (removeSettle i s) := ⟨rfl, rfl, rfl, rfl, rfl, rfl⟩

theorem removeWatch_spares (i : SlotNo) (s : State) : SparesRest s (removeWatch i s) := ⟨rfl, rfl, rfl, rfl, rfl, rfl⟩

theorem settleTimer_spares (s : State) : SparesRest s (settleTimer s) := ⟨rfl, rfl, rfl, rfl, rfl, rfl⟩

theorem removeTrap_spares (i : SlotNo) (s : State) : SparesRest s (removeTrap i s) := ⟨rfl, rfl, rfl, rfl, rfl, rfl⟩

theorem addPending_spares (e : PendingSector) (s : State) : SparesRest s (addPending e s) := ⟨rfl, rfl, rfl, rfl, rfl, rfl⟩

theorem addSettle_spares (e : SettleEntry) (s : State) : SparesRest s (addSettle e s) := ⟨rfl, rfl, rfl, rfl, rfl, rfl⟩

theorem addTrap_spares (e : TrapWait) (s : State) : SparesRest s (addTrap e s) := ⟨rfl, rfl, rfl, rfl, rfl, rfl⟩

theorem writeLog_spares (n : Nat) (e : LogEntry) (s : State) : SparesRest s (writeLog n e s) := ⟨rfl, rfl, rfl, rfl, rfl, rfl⟩

theorem updateLog_spares (n : Nat) (f : LogEntry → LogEntry) (s : State) : SparesRest s (updateLog n f s) :=
  ⟨rfl, rfl, rfl, rfl, rfl, rfl⟩

theorem offerRecord_spares (b : RecordBody) (s : State) : SparesRest s (offerRecord b s) := by
  rw [(offerRecord_frame b s).1]; exact ⟨rfl, rfl, rfl, rfl, rfl, rfl⟩

theorem offerRecords_spares (bs : List RecordBody) (s : State) : SparesRest s (offerRecords bs s) := by
  rw [offerRecords_frame]; exact ⟨rfl, rfl, rfl, rfl, rfl, rfl⟩

theorem offerHigh_spares (n : Nat) (b : NoticeBody) (o : Owed) (s : State) : SparesRest s (offerHigh n b o s) := by
  rw [offerHigh_frame]; exact ⟨rfl, rfl, rfl, rfl, rfl, rfl⟩

theorem offerPassing_spares (n transponder : Nat) (instant : Time) (w : Flags) (s : State) :
    SparesRest s (offerPassing n transponder instant w s) := offerHigh_spares _ _ _ _

theorem offerRevision_spares (x transponder : Nat) (r : Revision) (s : State) : SparesRest s (offerRevision x transponder r s) := by
  rw [offerRevision_frame]; exact ⟨rfl, rfl, rfl, rfl, rfl, rfl⟩

theorem giveSlot_spares (t : Nat) (s r : State) (i : SlotNo) (h : giveSlot t s = some (i, r)) : SparesRest s r := by
  obtain ⟨-, rfl⟩ | ⟨-, -, rfl⟩ := giveSlot_cases t s r i h <;> exact ⟨rfl, rfl, rfl, rfl, rfl, rfl⟩

theorem slotToProcess_spares (p : Params) (t : Nat) (s r : State) (i : SlotNo) (h : slotToProcess p t s = some (i, r)) :
    SparesRest s r := by
  obtain ⟨-, rfl⟩ | ⟨-, -, h⟩ := slotToProcess_cases p t s r i h
  · exact .refl _
  · exact giveSlot_spares t s r i h

/-! ## Sectors -/

theorem putSector_spares (p : Params) (r : SectorRec) (s : State) : SparesRest s (putSector p r s) :=
  (setSlot_spares _ _ s).andThen (updateLog_spares _ _)

theorem issueSector_spares (p : Params) (r : SectorRec) (s : State) : SparesRest s (issueSector p r s) :=
  (putSector_spares p r s).andThen (offerRecord_spares _)

theorem pairAtOnce_spares (p : Params) (i : SlotNo) (x : SectorPair) (w : Flags) (s : State) :
    SparesRest s (pairAtOnce p i x w s).1 := putSector_spares _ _ _

theorem takePair_spares (p : Params) (i : SlotNo) (x : SectorPair) (s : State) : SparesRest s (takePair p i x s).1 := by
  unfold takePair
  split
  · exact pairAtOnce_spares _ _ _ _ _
  · split
    · exact pairAtOnce_spares _ _ _ _ _
    · split
      · exact ((putSector_spares _ _ s).andThen (removeSettle_spares _)).andThen (addSettle_spares _)
      · split
        · exact addSettle_spares _ _
        · exact pairAtOnce_spares _ _ _ _ _

theorem expireSettle_spares (p : Params) (i : SlotNo) (s : State) : SparesRest s (expireSettle p i s) := by
  unfold expireSettle
  split
  · exact .refl _
  · exact (issueSector_spares _ _ _).andThen (removeSettle_spares _)

theorem expirePending_spares (p : Params) (i : SlotNo) (s : State) : SparesRest s (expirePending p i s) := by
  unfold expirePending
  split
  · exact .refl _
  · exact (issueSector_spares _ _ _).andThen (removePending_spares _)

theorem armWatch_spares (p : Params) (i : SlotNo) (s : State) : SparesRest s (armWatch p i s) := by
  refine ((removeWatch_spares i s).andThen settleTimer_spares).trans ?_
  unfold armWatch armFresh
  repeat' split
  all_goals exact ⟨rfl, rfl, rfl, rfl, rfl, rfl⟩

/-! ## The slot of a passing -/

/-- A passing whose slot has been cleared or reclaimed has none. -/
theorem slotOfPassing_released (s : State) (e : LogEntry) (h : e.released = true) : slotOfPassing s e = none := by
  unfold slotOfPassing
  cases e.slot <;> simp [h]

/-- The slot of a passing holds its transponder, and has held it since. -/
theorem slotOfPassing_some (s : State) (e : LogEntry) (i : SlotNo) (h : slotOfPassing s e = some i) :
    e.slot = some i ∧ e.released = false ∧ holdsTransponder e.transponder (slotOf s i) = true := by
  unfold slotOfPassing at h
  cases hs : e.slot with
  | none => simp [hs] at h
  | some k =>
    simp only [hs, Option.ite_none_right_eq_some, Bool.and_eq_true, Bool.not_eq_true'] at h
    obtain ⟨⟨hr, ht⟩, hk⟩ := h
    cases hk
    exact ⟨rfl, hr, ht⟩

/-! ## Withdrawal -/

theorem withdrawLap_spares (i : SlotNo) (n : Nat) (c : Bool) (s : State) : SparesRest s (withdrawLap i n c s) := by
  unfold withdrawLap
  split
  · exact (setSlot_spares _ _ s).andThen (offerRecord_spares _)
  · exact .refl _

theorem withdrawPending_spares (p : Params) (i : SlotNo) (n : Nat) (s : State) : SparesRest s (withdrawPending p i n s) := by
  unfold withdrawPending
  repeat' split
  · exact .refl _
  · exact (removePending_spares _ s).andThen (issueSector_spares _ _)
  · exact .refl _

theorem withdrawSettle_spares (p : Params) (i : SlotNo) (n : Nat) (s : State) : SparesRest s (withdrawSettle p i n s) := by
  unfold withdrawSettle
  repeat' split
  · exact .refl _
  · exact (removeSettle_spares _ s).andThen (issueSector_spares _ _)
  · exact .refl _

theorem amendSector_spares (i : SlotNo) (x : IssuedSector) (v : Option Nat) (c : Reason) (w : Flags) (s : State) :
    SparesRest s (amendSector i x v c w s) :=
  ((setSlot_spares _ _ s).andThen (updateLog_spares _ _)).andThen (offerRecord_spares _)

theorem withdrawIssued_spares (i : SlotNo) (n : Nat) (s : State) : SparesRest s (withdrawIssued i n s) := by
  unfold withdrawIssued
  repeat' split
  · exact .refl _
  · exact amendSector_spares _ _ _ _ _ _
  · exact .refl _

theorem withdrawTrap_spares (i : SlotNo) (n : Nat) (s : State) : SparesRest s (withdrawTrap i n s) := by
  unfold withdrawTrap
  repeat' split
  · exact .refl _
  · exact removeTrap_spares _ _
  · exact .refl _

theorem withdrawInSlot_spares (p : Params) (i : SlotNo) (n : Nat) (c : Bool) (s : State) :
    SparesRest s (withdrawInSlot p i n c s) := by
  have h : SparesRest s (withdrawTrap i n (withdrawIssued i n (withdrawSettle p i n (withdrawPending p i n
      (setSlot i (forgetPassing (withdrawLap i n c s) n (slotOf (withdrawLap i n c s) i)) (withdrawLap i n c s)))))) :=
    (((((withdrawLap_spares i n c s).andThen (setSlot_spares _ _)).andThen (withdrawPending_spares _ _ _)).andThen
      (withdrawSettle_spares _ _ _)).andThen (withdrawIssued_spares _ _)).andThen (withdrawTrap_spares _ _)
  unfold withdrawInSlot
  dsimp only
  split
  · exact h.andThen (setSlot_spares _ _)
  · exact h

theorem withdrawOutside_spares (n transponder : Nat) (b : RecordBody) (s : State) :
    SparesRest s (withdrawOutside n transponder b s) :=
  ((updateLog_spares _ _ s).andThen (offerRevision_spares _ _ _)).andThen (offerRecord_spares _)

/-! ## Trap logic -/

theorem writeSpeed_spares (p : Params) (a b : TrapItem) (s : State) : SparesRest s (writeSpeed p a b s) := by
  unfold writeSpeed
  split
  · exact updateLog_spares _ _ _
  · exact .refl _

theorem judgePair_spares (p : Params) (i : SlotNo) (a b : TrapItem) (s : State) : SparesRest s (judgePair p i a b s) :=
  ((offerRecord_spares _ s).andThen (writeSpeed_spares p a b)).andThen (removeTrap_spares _)

theorem endWait_spares (i : SlotNo) (x : TrapItem) (s : State) : SparesRest s (endWait i x s) :=
  (offerRecord_spares _ s).andThen (removeTrap_spares _)

theorem takeTrapItem_spares (p : Params) (i : SlotNo) (x : TrapItem) (s : State) : SparesRest s (takeTrapItem p i x s) := by
  unfold takeTrapItem
  split
  · exact addTrap_spares _ _
  · split
    · exact judgePair_spares _ _ _ _ _
    · exact judgePair_spares _ _ _ _ _
    · exact (endWait_spares _ _ s).trans (addTrap_spares _ _)

theorem takeMark_spares (p : Params) (m : LocalItem) (s : State) : SparesRest s (takeMark p m s) := by
  unfold takeMark
  repeat' split
  · exact .refl _
  · exact takeTrapItem_spares _ _ _ _
  · exact .refl _

theorem expireTrap_spares (i : SlotNo) (s : State) : SparesRest s (expireTrap i s) := by
  unfold expireTrap
  split
  · exact .refl _
  · exact endWait_spares _ _ _

/-! ## Local passings -/

theorem replaceForecast_spares (p : Params) (i : SlotNo) (x : NewPassing) (s : State) :
    SparesRest s (replaceForecast p i x s) := by
  unfold replaceForecast
  repeat' split
  · exact .refl _
  · exact .refl _
  · exact (withdrawOutside_spares _ _ _ s).andThen (withdrawInSlot_spares _ _ _ _)
  · exact .refl _

theorem countPassing_spares (p : Params) (i : SlotNo) (x : NewPassing) (w : Flags) (s : State) :
    SparesRest s (countPassing p i x w s).1 := by
  unfold countPassing
  dsimp only
  split
  · exact (setSlot_spares _ _ s).andThen (updateLog_spares _ _)
  · exact setSlot_spares _ _ _

theorem makePending_spares (p : Params) (i : SlotNo) (x : NewPassing) (s : State) : SparesRest s (makePending p i x s).1 := by
  unfold makePending
  repeat' split
  · exact putSector_spares _ _ _
  · exact putSector_spares _ _ _
  · exact addPending_spares _ _

theorem meetFeeder_spares (p : Params) (i : SlotNo) (x : NewPassing) (f : FeederRecord) (t : Time) (s : State) :
    SparesRest s (meetFeeder p i x f t s).1 := by
  unfold meetFeeder
  dsimp only
  split
  · exact makePending_spares _ _ _ _
  · split
    · exact ((setSlot_spares _ _ s).trans (setSlot_spares _ _ _)).trans (takePair_spares _ _ _ _)
    · exact (setSlot_spares _ _ s).trans (makePending_spares _ _ _ _)

theorem meetRecord_spares (p : Params) (i : SlotNo) (x : NewPassing) (s : State) : SparesRest s (meetRecord p i x s).1 := by
  unfold meetRecord
  split
  · exact makePending_spares _ _ _ _
  · split
    · exact (setSlot_spares _ _ s).trans (putSector_spares _ _ _)
    · exact meetFeeder_spares _ _ _ _ _ _

theorem sectorStep_spares (p : Params) (i : SlotNo) (x : NewPassing) (s : State) : SparesRest s (sectorStep p i x s).1 := by
  unfold sectorStep
  split
  · exact .refl _
  · split
    · exact meetRecord_spares _ _ _ _
    · exact ((removePending_spares _ s).trans (putSector_spares _ _ _)).trans (meetRecord_spares _ _ _ _)

theorem offerToTrap_spares (p : Params) (i : SlotNo) (x : NewPassing) (w : Flags) (s : State) :
    SparesRest s (offerToTrap p i x w s) := by
  unfold offerToTrap
  split
  · exact takeTrapItem_spares _ _ _ _
  · exact .refl _

theorem countAndPair_spares (p : Params) (i : SlotNo) (x : NewPassing) (w : Flags) (s : State) :
    SparesRest s (countAndPair p i x w s) :=
  ((((((countPassing_spares p i x w s).trans (removeWatch_spares i _)).trans (sectorStep_spares p i x _)).trans
    (offerRecord_spares _ _)).trans (offerRecords_spares _ _)).trans (offerPassing_spares _ _ _ _ _)).trans
    (offerToTrap_spares p i x w _)

theorem processInSlot_spares (p : Params) (i : SlotNo) (x : NewPassing) (s : State) : SparesRest s (processInSlot p i x s) := by
  have h : SparesRest s (if x.kind = .forecast then s else replaceForecast p i x (touchSlot i s)) := by
    split
    · exact .refl _
    · exact (touchSlot_spares i s).trans (replaceForecast_spares _ _ _ _)
  unfold processInSlot
  dsimp only
  generalize (if x.kind = .forecast then s else replaceForecast p i x (touchSlot i s)) = a at h ⊢
  split
  · exact ((h.trans (writeLog_spares _ _ _)).trans (offerRecord_spares _ _)).trans (offerPassing_spares _ _ _ _ _)
  · exact (h.trans (writeLog_spares _ _ _)).trans (countAndPair_spares _ _ _ _ _)

theorem processUntracked_spares (x : NewPassing) (s : State) : SparesRest s (processUntracked x s) := by
  unfold processUntracked
  dsimp only
  refine SparesRest.trans ?_ (offerPassing_spares _ _ _ _ _)
  refine SparesRest.trans ?_ (offerRecord_spares _ _)
  exact ⟨rfl, rfl, rfl, rfl, rfl, rfl⟩

/-- A local passing processed changes the competitor table, the log, the report port and the transmit queue alone. -/
theorem processPassing_spares (p : Params) (x : NewPassing) (s : State) : SparesRest s (processPassing p x s) := by
  unfold processPassing
  split
  · rename_i i t h
    exact (slotToProcess_spares p _ s t i h).trans (processInSlot_spares p i x t)
  · exact processUntracked_spares x s

/-! ## Feeder passings and revisions -/

theorem becomeRecord_spares (p : Params) (i : SlotNo) (f : FeederRecord) (s : State) : SparesRest s (becomeRecord p i f s) :=
  ((setSlot_spares _ _ s).trans (setSlot_spares _ _ _)).trans (armWatch_spares _ _ _)

theorem meetPending_spares (p : Params) (i : SlotNo) (e : PendingSector) (f : FeederRecord) (s : State) :
    SparesRest s (meetPending p i e f s) := by
  unfold meetPending
  split
  · exact ((removePending_spares _ s).trans (issueSector_spares _ _ _)).trans (setSlot_spares _ _ _)
  · dsimp only
    split
    · exact becomeRecord_spares _ _ _ _
    · split
      · exact (((removePending_spares _ s).trans (setSlot_spares _ _ _)).trans (takePair_spares _ _ _ _)).trans
          (offerRecords_spares _ _)
      · exact .refl _

/-- A feeder passing changes the competitor table, the log, the report port and the line alone. -/
theorem takeFeederPassing_spares (p : Params) (transponder : Nat) (f : FeederRecord) (s : State) :
    SparesRest s (takeFeederPassing p transponder f s) := by
  unfold takeFeederPassing
  split
  · exact .refl _
  · split
    · rename_i i t h
      refine (slotToProcess_spares p _ s t i h).trans ((touchSlot_spares i t).trans ?_)
      unfold feederInSlot
      repeat' split
      · exact meetPending_spares _ _ _ _ _
      · exact .refl _
      · exact becomeRecord_spares _ _ _ _
    · unfold dropFeeder
      split <;> exact ⟨rfl, rfl, rfl, rfl, rfl, rfl⟩

theorem amendIssued_spares (p : Params) (i : SlotNo) (x : IssuedSector) (e : LogEntry) (r : FeederRevision) (s : State) :
    SparesRest s (amendIssued p i x e r s) := by
  unfold amendIssued
  split
  · split
    · exact amendSector_spares _ _ _ _ _ _
    · exact .refl _
  · exact .refl _
  · unfold amendByRetime
    dsimp only
    repeat' split
    · exact .refl _
    · exact amendSector_spares _ _ _ _ _ _
    · exact .refl _
    · exact amendSector_spares _ _ _ _ _ _

/-- A revision from a feeder changes the competitor table, the log, the report port and the line alone. -/
theorem takeFeederRevision_spares (p : Params) (tag : Tag) (transponder : Nat) (r : FeederRevision) (s : State) :
    SparesRest s (takeFeederRevision p tag transponder r s) := by
  have hr : ∀ i u, SparesRest u (reviseRecord p i tag r u) := by
    intro i u
    unfold reviseRecord
    split
    · exact (setSlot_spares _ _ u).trans (armWatch_spares _ _ _)
    · exact .refl _
  have hs : ∀ i u, SparesRest u (reviseSpent i tag r u) := by
    intro i u
    unfold reviseSpent
    split
    · exact setSlot_spares _ _ _
    · exact .refl _
  have ht : ∀ i u, SparesRest u (reviseSettle i tag r u) := fun i u => ⟨rfl, rfl, rfl, rfl, rfl, rfl⟩
  have hi : ∀ i u, SparesRest u (reviseIssued p i tag r u) := by
    intro i u
    unfold reviseIssued
    repeat' split
    · exact .refl _
    · exact .refl _
    · exact .refl _
    · exact amendIssued_spares _ _ _ _ _ _
    · exact .refl _
  unfold takeFeederRevision
  split
  · exact .refl _
  · exact (((hr _ s).trans (hs _ _)).trans (ht _ _)).trans (hi _ _)

theorem takeIntake_spares (p : Params) (x : IntakeItem) (s : State) : SparesRest s (takeIntake p x s) := by
  unfold takeIntake
  split
  · exact takeFeederPassing_spares _ _ _ _
  · exact takeFeederRevision_spares _ _ _ _ _
  · exact takeFeederRevision_spares _ _ _ _ _

/-! ## Corrections and HALT -/

theorem retimeLap_spares (i : SlotNo) (n : Nat) (t : Time) (e : LogEntry) (s : State) : SparesRest s (retimeLap i n t e s) := by
  unfold retimeLap
  dsimp only
  split
  · exact ((setSlot_spares _ _ s).trans (updateLog_spares _ _ _)).trans (offerRecord_spares _ _)
  · exact .refl _

theorem retimeIssued_spares (p : Params) (i : SlotNo) (n : Nat) (former t : Time) (s : State) :
    SparesRest s (retimeIssued p i n former t s) := by
  unfold retimeIssued
  dsimp only
  repeat' split
  · exact .refl _
  · exact .refl _
  · exact amendSector_spares _ _ _ _ _ _
  · exact amendSector_spares _ _ _ _ _ _
  · exact .refl _

theorem retimeTrap_spares (i : SlotNo) (n : Nat) (t : Time) (s : State) : SparesRest s (retimeTrap i n t s) :=
  ⟨rfl, rfl, rfl, rfl, rfl, rfl⟩

theorem retimeSettle_spares (i : SlotNo) (n : Nat) (t : Time) (s : State) : SparesRest s (retimeSettle i n t s) :=
  ⟨rfl, rfl, rfl, rfl, rfl, rfl⟩

theorem retimePending_spares (i : SlotNo) (n : Nat) (t : Time) (s : State) : SparesRest s (retimePending i n t s) :=
  ⟨rfl, rfl, rfl, rfl, rfl, rfl⟩

theorem retimePassing_spares (p : Params) (i : SlotNo) (n : Nat) (t : Time) (e : LogEntry) (s : State) :
    SparesRest s (retimePassing p i n t e s) := by
  unfold retimePassing
  dsimp only
  refine SparesRest.trans ?_ (retimeTrap_spares i n t _)
  refine SparesRest.trans ?_ (retimeIssued_spares p i n e.instant t _)
  refine SparesRest.trans ?_ (retimeSettle_spares i n t _)
  refine SparesRest.trans ?_ (retimePending_spares i n t _)
  refine SparesRest.trans ?_ (retimeLap_spares i n t e _)
  refine SparesRest.trans ?_ (setSlot_spares i _ _)
  exact ((updateLog_spares n (retimeEntry t) s).trans (offerRevision_spares n e.transponder (.retime t) _)).trans
    (offerRecord_spares (amendPassingRec s e (.retimed t)) _)

/-- A WITHDRAW at its grant changes the competitor table, the log, the report port and the line alone. -/
theorem grantWithdraw_spares (p : Params) (n : Nat) (s : State) : SparesRest s (grantWithdraw p n s).2 := by
  unfold grantWithdraw
  split
  · exact .refl _
  · exact .refl _
  · split
    · exact .refl _
    · dsimp only
      split
      · exact withdrawOutside_spares _ _ _ _
      · exact (withdrawOutside_spares _ _ _ s).trans (withdrawInSlot_spares _ _ _ _ _)

/-- A RETIME at its grant changes the competitor table, the log, the report port and the line alone. -/
theorem grantRetime_spares (p : Params) (n : Nat) (t : Time) (s : State) : SparesRest s (grantRetime p n t s).2 := by
  unfold grantRetime
  repeat' split
  all_goals first | exact .refl _ | exact retimePassing_spares _ _ _ _ _ _

/-- Records issued for each entry of a list. -/
theorem foldl_spares {α : Type} (f : State → α → State) (h : ∀ u e, SparesRest u (f u e)) (l : List α) (s : State) :
    SparesRest s (l.foldl f s) := by
  induction l generalizing s with
  | nil => exact .refl _
  | cons e l ih => exact (h s e).trans (ih _)

theorem haltPending_spares (p : Params) (s : State) : SparesRest s (haltPending p s) :=
  (foldl_spares _ (fun u e => issueSector_spares p (pendingEndRec u e .halted) u) s.table.pending s).trans
    ⟨rfl, rfl, rfl, rfl, rfl, rfl⟩

theorem haltSettle_spares (p : Params) (s : State) : SparesRest s (haltSettle p s) :=
  (foldl_spares _ (fun u e => issueSector_spares p (earlyRec p u e) u) s.table.settle s).trans ⟨rfl, rfl, rfl, rfl, rfl, rfl⟩

end Sys2Proof.Machine
end

