-- ==== Sys2Proof/Tests/Slice0.lean ====
section
/-! SUPPORT. Tests: ill-formed commands refused; values, frames and moves that the manual's worked examples, tables and rules give;
and for each statement with hypotheses a state and operands that meet them (`witness_…`). -/

namespace Sys2Proof.Tests

open Sys2Proof.Machine

set_option maxRecDepth 20000
set_option Elab.async false

/-! ## Helpers -/

def cp : ChannelParams := { threshold := 32, guardLevel := 220, filterWidth := 4, guardMode := .auto, quietTime := 50 }

/-- Station 4 at 620 m with the defaults of R160, feeder 9 and calibration -120. -/
def par : Params :=
  { stationNumber := 4, position := 620, arrangement := .single, feeders := [9], lapLine := false, trapDistance := 1000,
    trapWindow := 1000, channels := ⟨cp, cp, cp⟩, closeGap := 30, maxDwell := 3000, admission := .anyone, floorFraction := 10,
    minimumHits := 3, calibration := -120, repeatWindow := 5000, minSector := 1000, maxSector := 600000, pairWait := 500,
    settleTime := 1000, tolerance := 13, confidenceMax := 7, forecastThreshold := 3, slack := 4, arbiterMode := .localFirst,
    bypassLimit := 4, portPromotion := 4, fifoThreshold := 32, readMode := .wait, readTimeout := 20, attentionAge := 20 }

/-- A lap-line station without feeders. -/
def lapPar : Params := { par with lapLine := true, feeders := [] }

/-- A configured station at a time. -/
def stationAt (p : Params) (m : Mode) (t : Time) : State :=
  { State.reset with now := t, station := { StationBlock.initial with conf := some p, mode := m } }

/-- The state after a command. -/
def after (c : Instr) (s : State) : State :=
  match exec c s with
  | .next t => t
  | _ => s

def withQueue (st : LineState) (q : List Notice) (s : State) : State := { s with line := { s.line with state := st, queue := q } }

def withPort (p : PortState) (s : State) : State := { s with report := { s.report with port := p } }

def withPlaces (c : Option Nat) (l : List LogPlace) (s : State) : State := { s with log := { counter := c, places := l } }

def withGuard (g : GuardState) (s : State) : State :=
  setGuard .a
    { state := g, high := g == .watching || g == .tripped, filterDue := if g = .watching then some 1000 else none,
      quietDue := if g = .quieting then some 1000 else none,
      tripTime := if g = .tripped ∨ g = .quieting then some 400 else none } s

def passNotice (n : Nat) : Notice := freshNotice (.passing n 7 100 0) .high 0

def timeNotice : Notice := freshNotice .time .middle 0

def statusFields : StatusFields :=
  { stationState := 4, arrangement := 1, lapLine := 2, feeder1 := 6, feeder2 := 0, feeder3 := 0, fault := 3, latest := 8812,
    unsent := 0 }

def statusNotice : Notice := freshNotice (.status statusFields) .low 0

/-- A slot of transponder 4,410,027, competitor 44, active at a time. -/
def carSlot (t : Time) : Slot :=
  { Slot.empty with state := .active, transponder := some 4410027, competitor := 44, lastActivity := some t }

def passingAt (n : Nat) (t : Time) : NewPassing :=
  { kind := .loop, number := n, transponder := 4410027, instant := t, flags := 0, peak := some 171, peakChannel := some .a,
    hitCount := some 8, span := none }

def localItem (n : Option Nat) (t : Time) : LocalItem :=
  { number := n, transponder := 4410027, instant := t, flags := 0, peak := 171, peakChannel := .a, hitCount := 8 }

def logEntryAt (n : Nat) (slot : Option SlotNo) (t : Time) : LogEntry := entryOf (passingAt n t) slot 0 t

def guardRec : RecordBody := .guard { channel := .a, event := .trip, mode := .auto, eventTime := 5 }

def records (k : Nat) : List Record := List.replicate k { issued := 0, body := guardRec }

def withRecords (k : Nat) (s : State) : State := { s with report := { s.report with fifo := records k } }

/-! ## Ill-formed commands (WellFormed) -/

def argsOk : ConfigArgs :=
  { stationNumber := 4, position := 620, arrangement := 1, splitMask := 0, feeder1 := 9, feeder2 := 0, feeder3 := 0, lapLine := 2,
    trapDistance := 1000, trapWindow := 1000, channels := ⟨⟨32, 220, 4, 1, 50⟩, ⟨32, 220, 4, 1, 50⟩, ⟨32, 220, 4, 1, 50⟩⟩,
    closeGap := 30, maxDwell := 3000, admission := 1, floorFraction := 10, minimumHits := 3, calibration := -120,
    repeatWindow := 5000, minSector := 1000, maxSector := 600000, pairWait := 500, settleTime := 1000, tolerance := 13,
    confidenceMax := 7, forecastThreshold := 3, slack := 4, arbiterMode := 1, bypassLimit := 4, portPromotion := 4,
    fifoThreshold := 32, readMode := 1, readTimeout := 20, attentionAge := 20 }

theorem test_wellFormed_configure : (Instr.configure argsOk ⟨255, 0, 0⟩).wellFormed = true := by decide

theorem test_illFormed_levels :
    (Instr.configure argsOk ⟨256, 0, 0⟩).wellFormed = false ∧ (Instr.configure argsOk ⟨0, 256, 0⟩).wellFormed = false ∧
      (Instr.configure argsOk ⟨0, 0, 256⟩).wellFormed = false := by decide

theorem test_illFormed_channel_arguments :
    ([{ threshold := 256, guardLevel := 220, filterWidth := 4, guardMode := 1, quietTime := 50 },
      { threshold := 32, guardLevel := 256, filterWidth := 4, guardMode := 1, quietTime := 50 },
      { threshold := 32, guardLevel := 220, filterWidth := 256, guardMode := 1, quietTime := 50 },
      { threshold := 32, guardLevel := 220, filterWidth := 4, guardMode := 256, quietTime := 50 },
      { threshold := 32, guardLevel := 220, filterWidth := 4, guardMode := 1, quietTime := 65536 }] : List ChannelArgs).all (fun c =>
        !({ argsOk with channels := ⟨c, argsOk.channels.b, argsOk.channels.c⟩ } : ConfigArgs).wellFormed &&
        !({ argsOk with channels := ⟨argsOk.channels.a, c, argsOk.channels.c⟩ } : ConfigArgs).wellFormed &&
        !({ argsOk with channels := ⟨argsOk.channels.a, argsOk.channels.b, c⟩ } : ConfigArgs).wellFormed) = true := by decide

theorem test_illFormed_config_arguments :
    ([{ argsOk with stationNumber := 256 }, { argsOk with position := 65536 }, { argsOk with arrangement := 256 },
      { argsOk with splitMask := 256 }, { argsOk with feeder1 := 256 }, { argsOk with feeder2 := 256 },
      { argsOk with feeder3 := 256 }, { argsOk with lapLine := 256 }, { argsOk with trapDistance := 65536 },
      { argsOk with trapWindow := 65536 }, { argsOk with closeGap := 65536 }, { argsOk with maxDwell := 65536 },
      { argsOk with admission := 256 }, { argsOk with floorFraction := 256 }, { argsOk with minimumHits := 256 },
      { argsOk with calibration := 32768 }, { argsOk with calibration := -32769 }, { argsOk with repeatWindow := 65536 },
      { argsOk with minSector := 4294967296 }, { argsOk with maxSector := 4294967296 }, { argsOk with pairWait := 65536 },
      { argsOk with settleTime := 65536 }, { argsOk with tolerance := 256 }, { argsOk with confidenceMax := 256 },
      { argsOk with forecastThreshold := 256 }, { argsOk with slack := 256 }, { argsOk with arbiterMode := 256 },
      { argsOk with bypassLimit := 256 }, { argsOk with portPromotion := 256 }, { argsOk with fifoThreshold := 256 },
      { argsOk with readMode := 256 }, { argsOk with readTimeout := 256 }, { argsOk with attentionAge := 256 }] :
        List ConfigArgs).all (fun a => !a.wellFormed) = true := by decide

def burst : Burst := { id := 4410027, lowBattery := true, checkMatches := true, start := 100, strength := 150, overlaps := [144] }

theorem test_illFormed_operands :
    [Instr.burstEnd .a { burst with id := 16777216 }, .burstEnd .a { burst with strength := 256 },
      .burstEnd .a { burst with overlaps := [256] }, .guardRearm 256, .silenceExpiry ⟨0, .timing⟩,
      .silenceExpiry ⟨16777215, .timing⟩, .dwellExpiry ⟨0, .exitLoop⟩, .dwellExpiry ⟨16777215, .timing⟩, .staleExpiry 0,
      .staleExpiry 32, .rosterPut 16777216 0, .rosterPut 1 65536, .slotRead 256, .snapshot 256 1, .snapshot 0 256,
      .withdraw 4294967296, .retime 4294967296 0, .retime 1 281474976710656, .mark 16777216 0, .mark 1 281474976710656,
      .reportRead 256, .unknownCommand 256 0, .unknownCommand 21 256, .unknownCommand 3 5, .logRead 4294967296 1,
      .logRead 1 256, .peerRead 256].all (fun c => !c.wellFormed) = true := by decide

/-! ## Frames and requests written out from chapter 11 -/

/-- The check value of the CRC of R169 for the digits 1 to 9, as it is published for this polynomial and start value. -/
theorem test_crc_check_value :
    crc [0x31, 0x32, 0x33, 0x34, 0x35, 0x36, 0x37, 0x38, 0x39] = 0x29B1 := by decide +kernel

/-- The start delimiter as it goes onto the line, most significant bit first (R169). -/
theorem test_bits_most_significant_first :
    lineBits [0xC9, 0x01] =
      [true, true, false, false, true, false, false, true, false, false, false, false, false, false, false, true] := by
  decide +kernel

theorem test_frame_passing :
    frameBytes 9 3120 0 (.passing 8812 4410027 500412007 0) =
      [0xAA, 0xAA, 0xAA, 0xAA, 0xC9, 0x02, 0x09, 0x00, 0x00, 0x22, 0x6C, 0x43, 0x4A, 0xAB, 0x00, 0x00, 0x1D, 0xD3, 0xAE, 0x67,
        0x00, 0x00, 0x40, 0x9A] := by decide +kernel

theorem test_frame_time_received :
    receiveFrame (lineBits
      [0xAA, 0xAA, 0xAA, 0xAA, 0xC9, 0x01, 0x09, 0x00, 0x00, 0x1D, 0xC9, 0x8F, 0xD4, 0x0C, 0x30, 0x40, 0x1F]) =
      some (.time 9 499748820 3120) := by decide +kernel

/-- The preamble received from its fourth bit on, behind two bits that are none of it: the delimiter stands at bit 31 (R169). -/
theorem test_frame_at_any_bit :
    receiveFrame ([true, false] ++ (lineBits
      [0xAA, 0xAA, 0xAA, 0xAA, 0xC9, 0x01, 0x09, 0x00, 0x00, 0x1D, 0xC9, 0x8F, 0xD4, 0x0C, 0x30, 0x40, 0x1F]).drop 3) =
      some (.time 9 499748820 3120) := by decide +kernel

theorem test_frame_revise_received :
    receiveFrame (lineBits [0xAA, 0xAA, 0xAA, 0xAA, 0xC9, 0x03, 0x09, 0x00, 0x00, 0x0D, 0x31, 0x43, 0x4A, 0xAB, 0x02, 0x00, 0x00,
      0x00, 0x00, 0x00, 0x00, 0x7A, 0xC8]) = some (.revise 9 3377 4410027 .withdraw) ∧
    receiveFrame (lineBits [0xAA, 0xAA, 0xAA, 0xAA, 0xC9, 0x03, 0x09, 0x00, 0x00, 0x0D, 0x31, 0x43, 0x4A, 0xAB, 0x01, 0x00, 0x15,
      0x3A, 0x51, 0x41, 0x00, 0x96, 0x06]) = some (.revise 9 3377 4410027 (.retime 91172716800)) := by decide +kernel

theorem test_frame_status_received :
    receiveFrame (lineBits [0xAA, 0xAA, 0xAA, 0xAA, 0xC9, 0x04, 0x09, 0x04, 0x01, 0x02, 0x06, 0x00, 0x00, 0x03, 0x00, 0x00, 0x22,
      0x6C, 0x00, 0x00, 0x7C, 0x01]) = some (.status 9 statusFields) := by decide +kernel

/-- A frame with one byte too many, a wrong CRC, or an action byte of 3 is discarded (R86, R169). -/
theorem test_frame_discarded :
    receiveFrame (buildFrame 9 0 0 (.passing 1 1 0 0) ++ lineBits [0x00]) = none ∧
    receiveFrame (lineBits [0xC9, 0x01, 0x09, 0x00, 0x00, 0x1D, 0xC9, 0x8F, 0xD4, 0x0C, 0x30, 0x40, 0x1E]) = none ∧
    noticeOfBody 3 9 [0, 0, 13, 49, 67, 74, 171, 3, 0, 0, 0, 0, 0, 0] = none := by decide +kernel

theorem test_request_lengths :
    argLength 1 = some 65 ∧ argLength 3 = some 5 ∧ argLength 9 = some 5 ∧ argLength 11 = some 2 ∧ argLength 18 = some 4 ∧
      argLength 19 = some 10 ∧ argLength 20 = some 9 ∧ argLength 21 = none := by decide

theorem test_requests_decoded :
    decodeRequest ⟨0, 0, 0⟩ [0x03, 0x05, 0x43, 0x4A, 0xAB, 0x00, 0x2C] = some (.rosterPut 4410027 44) ∧
    decodeRequest ⟨0, 0, 0⟩ [0x13, 0x0A, 0x00, 0x00, 0x04, 0xB7, 0x00, 0x15, 0x3C, 0x30, 0x6E, 0xB4] =
      some (.retime 1207 91204120244) ∧
    decodeRequest ⟨0, 0, 0⟩ [0x14, 0x09, 0x43, 0x4A, 0xAB, 0x00, 0x15, 0x3C, 0x30, 0x6E, 0xB4] = some (.mark 4410027 91204120244) ∧
    decodeRequest ⟨0, 0, 0⟩ [0x15, 0x00] = some (.unknownCommand 21 0) ∧
    decodeRequest ⟨0, 0, 0⟩ [0x08, 0x01] = none := by decide +kernel

theorem test_no_word_of_the_table : decodeTableWord 8 3 = none := rfl

/-! ## Chapter 3: the worked examples of the instant and of trap speeds -/

def crossing : Entry :=
  { state := .opened, key := ⟨4410027, .timing⟩, firstHit := 91204117300, lastHit := 91204122990,
    stored := [⟨0, 40, .a⟩, ⟨810, 72, .a⟩, ⟨1620, 118, .a⟩, ⟨2400, 160, .a⟩, ⟨3230, 171, .a⟩, ⟨4050, 149, .a⟩, ⟨4870, 101, .a⟩,
      ⟨5690, 55, .a⟩],
    stride := 1, skip := 0, hitCount := 8, peak := 171, peakChannel := .a, flags := 0, silenceDue := some 91204152990,
    dwellDue := some 91207117300, instant := none, number := none, parkMark := false, closeOrder := 0 }

theorem test_instant_fast_crossing : closeInstant par crossing = (91204120244, false) := by decide +kernel

theorem test_instant_with_other_parameters :
    closeInstant { par with floorFraction := 12 } crossing = (91204120313, false) ∧
    closeInstant { par with floorFraction := 12, minimumHits := 4 } crossing = (91204120410, true) := by decide +kernel

theorem test_instant_split_line :
    instantOffset { par with arrangement := .splitAB } 180 .b
      [⟨0, 60, .a⟩, ⟨400, 90, .b⟩, ⟨700, 110, .a⟩, ⟨1100, 150, .b⟩, ⟨1500, 170, .b⟩, ⟨1800, 140, .a⟩, ⟨2200, 180, .b⟩,
        ⟨2600, 120, .b⟩, ⟨3000, 85, .a⟩] = (1740, false) := by decide +kernel

/-- The two trap speeds and the outcomes at the limits (3.3). -/
theorem test_trap_speeds :
    judgeSpeed par 104712 = .speed 3438 false ∧ judgeSpeed par 128000 = .speed 2813 false ∧ judgeSpeed par 0 = .reversed ∧
    judgeSpeed par (-4300) = .reversed ∧ judgeSpeed par 36000 = .speed 9999 true ∧ judgeSpeed par 36001 = .speed 9999 true ∧
    judgeSpeed par 36002 = .speed 9999 false ∧ judgeSpeed par 1000000 = .speed 360 false ∧
    judgeSpeed par 1000001 = .outOfWindow := by decide +kernel

/-! ## Chapter 4: the worked example of a feeder's clock -/

theorem test_line_delay : lineDelay 620 3120 = 13 := by decide +kernel

theorem test_samples_lock_and_filter :
    ([-128598, -128594, -128597, -128599, -128600, -128850, -128597] : List Int).foldl (fun r x => (sampleMove x r).1)
      (sampleMove (-128590) .initial).1 =
      { PeerRecord.initial with clock := .locked, offset := some (-2057543), count := 7, rejections := 0 } := by decide +kernel

theorem test_conversion : convertInstant 500412007 (-2057540) = 500283411 ∧ convertInstant 499760000 (-2057480) = 499631407 := by
  decide +kernel

/-! ## Chapters 6 to 8: worked examples -/

/-- Grants 5 to 7 of the example under load: the SNAPSHOT is promoted above 2,000 µs, and LINE is overdue before TIMER. -/
theorem test_arbiter_example :
    let s := { (stationAt { par with portPromotion := 2 } .running 2500) with
      gather := { GatherBlock.initial with queue := [localItem (some 1) 5] }
      line := { LineBlock.initial with intake := [⟨⟨9, 1⟩, 7, .withdraw⟩] }
      table := { TableBlock.initial with bypass := ⟨0, 5, 5, 4⟩, pending := [⟨12, 1, 5, 6, true⟩] }
      report := { ReportBlock.initial with port := .working (.request (.snapshot 0 16) 100) } }
    choice { par with portPromotion := 2 } s = some .port ∧
      choice { par with portPromotion := 2 } { s with now := 2000 } = some .line ∧
      choice { par with portPromotion := 2 } (withPort .ready s) = some .line := by decide +kernel

/-- The watch of the forecast example, and the slot after its due: lap 13 of 91,402,333 µs, BEST; c = 2; the feeder spent. -/
def forecastSlot : Slot :=
  { carSlot 1560050000 with
    last := some { number := 2040, instant := 1500000000, flags := 0, span := none, lapCounted := true }
    previous := some (1960, 1408400000), lapCount := 12, lastLap := some 91600000, bestLap := some 91500000
    bestBefore := some 91500000, expected := 31402333, confidence := 5
    feeder := some { tag := ⟨6, 7715⟩, instant := some 1560000000, clock := .plain, flags := 0 } }

def forecastPar : Params := { par with stationNumber := 1, feeders := [6], lapLine := true }

def forecastState : State :=
  setSlot 17 forecastSlot (withPlaces (some 2118) [] (withQueue .backoff [timeNotice]
    { (stationAt forecastPar .running 1599253000) with
      table := { TableBlock.initial with watch := [⟨17, 1599252916, ⟨6, 7715⟩, 31402333, true⟩] } }))

theorem test_watch_due_time : watchDueTime forecastPar 1560000000 31402333 = 1599252916 := by decide +kernel

theorem test_forecast_passing :
    let x := slotOf (after .timerGrant forecastState) 17
    x.last.map (fun l => (l.number, l.instant, l.span)) = some (2118, 1591402333, some 31402333) ∧ x.lapCount = 13 ∧
      x.bestLap = some 91402333 ∧ x.bestBefore = some 91500000 ∧ x.confidence = 2 ∧ x.spent = forecastSlot.feeder ∧
      (settleOf (after .timerGrant forecastState) 17).map (fun e => (e.sector, e.expiry)) = some (31402333, 1600253000) := by
  decide +kernel

/-- The late car: the forecast is withdrawn, and the real passing counts lap 13 of 101,000,000 µs from passing 2,040. -/
theorem test_forecast_replaced :
    let s := { (after .timerGrant forecastState) with
      now := 1601040000, gather := { GatherBlock.initial with queue := [localItem (some 2131) 1601000000] } }
    let x := slotOf (after .localGrant s) 17
    x.last.map (·.number) = some 2131 ∧ x.previous = some (2040, 1500000000) ∧ x.lapCount = 13 ∧ x.lastLap = some 101000000 ∧
      x.bestLap = some 91500000 ∧ x.feeder = none ∧
      (settleOf (after .localGrant s) 17).map (fun e => (e.sector, e.expiry)) = some (41000000, 1602040000) := by decide +kernel

/-- The settling of the real sector: E becomes 41,000,000 and c falls to 1 (8.5, worked example). -/
theorem test_sector_learned :
    (learnSector par 41000000 { forecastSlot with confidence := 2 }).confidence = 1 ∧
      (learnSector par 41000000 { forecastSlot with confidence := 2 }).expected = 41000000 := by decide +kernel

/-- The withdrawn lap of the example: lap count 1, best 91,500,000, the last local passing 260 again. -/
def lapSlot : Slot :=
  { Slot.empty with
    state := .active, transponder := some 2036118, competitor := 7, lastActivity := some 1140000000
    last := some { number := 318, instant := 1140000000, flags := 0, span := none, lapCounted := true }
    previous := some (260, 1091500000), lapCount := 2, lastLap := some 48500000, bestLap := some 48500000
    bestBefore := some 91500000 }

theorem test_lap_withdrawn :
    let s := setSlot 23 lapSlot (stationAt lapPar .running 1150000000)
    let x := slotOf (withdrawInSlot lapPar 23 318 true s) 23
    x.last.map (fun l => (l.number, l.instant)) = some (260, 1091500000) ∧ x.previous = none ∧ x.lapCount = 1 ∧ x.lastLap = none ∧
      x.bestLap = some 91500000 ∧ x.bestBefore = none := by decide +kernel

/-- Reading across the ring: with 5,000 the latest number, 2,952 is GONE, and 4,998 and 5,001 are NOT_YET. -/
theorem test_log_read_across_the_ring :
    let s := withPlaces (some 5001) [⟨2953, some (logEntryAt 2953 none 5)⟩, ⟨4998, none⟩] (stationAt par .running 9)
    logItemOf s 2952 = .gone 2952 ∧ logItemOf s 2953 = .present (logEntryAt 2953 none 5) ∧ logItemOf s 4998 = .notYet 4998 ∧
      logItemOf s 5001 = .notYet 5001 := by decide +kernel

/-- The overrun example: of LAP, SECTOR and GUARD at 127 records, SECTOR 7,244 locks the capture and GUARD sets MORE_LOST. -/
theorem test_overrun_example :
    let s := withRecords 127 (stationAt lapPar .running 9)
    let t := offerRecords [guardRec, .sector (pendingEndRec s ⟨9, 7244, 5, 6, false⟩ .noFeeder), guardRec] s
    t.report.fifo.length = 128 ∧ t.report.overrun = some { kind := .sector, number := some 7244, issued := 9, moreLost := true } := by
  decide +kernel

/-- The table of a long pass (chapter 2): stride and stored hits after hits 33, 63 and 65. -/
theorem test_decimation :
    let hit (k : Nat) : Hit :=
      { transponder := 7, channel := .a, time := BitVec.ofNat 48 (800 * k), strength := 100, lowBattery := false }
    let pass (k : Nat) : Entry := (List.range (k - 1)).foldl (fun e j => joinHit par (hit (j + 1)) e) (newEntry par ⟨7, .timing⟩ (hit 0))
    ((pass 33).stride, (pass 33).stored.length) = (2, 17) ∧ ((pass 63).stride, (pass 63).stored.length) = (2, 32) ∧
      ((pass 65).stride, (pass 65).stored.length, (pass 65).hitCount) = (4, 17, 65) := by decide +kernel

/-! ## Witnesses: states and operands that meet the hypotheses of the statements -/

def lastMicrosecond : State := { stationAt par .running 281474976710655 with pending := [] }

theorem witness_StepRunsTheFrontCommand :
    ({ stationAt par .running 5 with pending := [Instr.poll, .clockWrap] } : State).pending = Instr.poll :: [.clockWrap] := rfl

/-- Below and at the last value of station time. -/
theorem witness_EmptyQueueCountsOneMicrosecond :
    (stationAt par .running 281474976710654).pending = [] ∧ (stationAt par .running 281474976710654).now.toNat < 281474976710655 ∧
      lastMicrosecond.pending = [] ∧ lastMicrosecond.now.toNat = 281474976710655 := by decide

theorem witness_ClockWrapOffersTheFault :
    lastMicrosecond.now.toNat = 281474976710655 ∧ (after .clockWrap lastMicrosecond).now = 0 := by decide

def resetAt (r : Int) (s : State) : State := { s with channels := { s.channels with resetAt := r } }

/-- A burst just clear of the capture margin, at the detection threshold, with the least and the greatest id; one that began as the
station was reset, and one microsecond before; one that spans the wrap of a station that runs since power-on, and one that spans the
wrap and a RESTART before it. -/
theorem witness_BurstEndCompletesOneHit :
    let s := stationAt par .idle 300
    s.station.conf = some par ∧ (after (.burstEnd .a burst) s).channels.held.length = 1 ∧
      (after (.burstEnd .a { burst with overlaps := [145] }) s).channels.held = [] ∧
      (after (.burstEnd .a { burst with id := 16777214, strength := 32, overlaps := [26] }) s).channels.held.length = 1 ∧
      (after (.burstEnd .a { burst with id := 16777215 }) s).channels.held = [] ∧ (after (.burstEnd .b burst) s).channels.held = [] ∧
      (after (.burstEnd .a burst) (resetAt 100 s)).channels.held.length = 1 ∧
      (after (.burstEnd .a burst) (resetAt 101 s)).channels.held = [] ∧
      (after (.burstEnd .a burst) (resetAt (101 - 281474976710656) s)).channels.held.length = 1 ∧
      (let last := stationAt par .idle 281474976710655
       let spanning := { burst with start := 281474976710556 }
       (after (.burstEnd .a spanning) (after .clockWrap last)).channels.held.length = 1 ∧
         (after (.burstEnd .a spanning) (after .clockWrap (resetAt 281474976710557 last))).channels.held = []) := by decide +kernel

theorem witness_CrossingsMoveTheGuard :
    (stationAt par .idle 2000).station.conf = some par ∧ channelOn (stationAt par .idle 2000) .a = true ∧
      (guardOf (after (.risingCrossing .a) (withGuard .quieting (stationAt par .idle 2000))) .a).state = .tripped ∧
      (guardOf (after (.fallingCrossing .a) (withGuard .watching (stationAt par .idle 2000))) .a).state = .opened ∧
      (guardOf (after (.fallingCrossing .a) (withGuard .tripped (stationAt par .idle 2000))) .a).quietDue = some 52000 := by
  decide +kernel

def lowTripped : State := setGuard .a { Guard.initial with state := .tripped, tripTime := some 400 } (stationAt par .idle 1000)

/-- Each expiry at the moment it falls, and a TRIPPED guard whose level is LOW. -/
theorem witness_TripsAndReopeningsIssueGuardRecords :
    channelOn (stationAt par .idle 1000) .a = true ∧ (withRecords 127 (stationAt par .idle 1000)).report.fifo.length < 128 ∧
      (guardOf (withGuard .watching (stationAt par .idle 1000)) .a).filterDue = some 1000 ∧ reached 1000 1000 = true ∧
      (stationAt par .idle 1000).station.mode ≠ .running ∧
      (guardOf (withGuard .quieting (stationAt par .idle 1000)) .a).quietDue = some 1000 ∧
      (guardOf lowTripped .a).state = .tripped ∧ (guardOf lowTripped .a).high = false ∧
      (after (.guardRearm 1) lowTripped).report.fifo.length = 1 := by decide +kernel

def twoPasses : State :=
  { withGuard .watching (stationAt { par with arrangement := .trap } .running 1000) with
    gather := { GatherBlock.initial with entries :=
      [{ crossing with key := ⟨7, .timing⟩ }, { crossing with state := .parked, stored := [] }, { crossing with key := ⟨7, .exitLoop⟩ }] } }

theorem witness_BlankingTripEndsTheGroupsPasses :
    channelOn twoPasses .a = true ∧ (guardOf twoPasses .a).state = .watching ∧ (guardOf twoPasses .a).filterDue = some 1000 ∧
      reached 1000 twoPasses.now = true ∧ groupChannels .trap (groupOf .trap .a) = [.a] ∧
      (after (.filterExpiry .a) twoPasses).gather.entries.map (·.key) = [⟨7, .exitLoop⟩] ∧
      (after (.filterExpiry .a) twoPasses).gather.queue.map (·.number) = [some 1] := by decide +kernel

theorem witness_BlankingTrip_split :
    let s := setGuard .b { Guard.initial with state := .quieting, quietDue := some 9000, tripTime := some 4 }
      (withGuard .watching (stationAt { par with arrangement := .splitAB } .running 1000))
    channelOn s .a = true ∧ groupChannels .splitAB (groupOf .splitAB .a) = [.a, .b] ∧ (guardOf s .b).state = .quieting ∧
      (guardOf s .a).filterDue = some 1000 := by decide +kernel

def aHit (t : Time) (strength : Nat) : Hit := { transponder := 4410027, channel := .a, time := t, strength := strength, lowBattery := true }

def withHit (h : Hit) (s : State) : State := { s with channels := { s.channels with held := [h] } }

def withEntries (es : List Entry) (s : State) : State := { s with gather := { GatherBlock.initial with entries := es } }

/-- A guard that blanks, an empty table and one with another pass, an OPEN entry of the key with 8 and with 32 stored hits and a PARKED
one, and the admission filter. -/
theorem witness_DeliveredHitMakesOrJoinsAPass :
    let s := withHit (aHit 91204123500 160) (stationAt par .running 91204123700)
    let roster : Params := { par with admission := .rosterOnly }
    let r : State := { s with station := { s.station with conf := some roster } }
    par.admission = .anyone ∧ s.channels.held = [aHit 91204123500 160] ∧ (guardOf (withGuard .tripped s) .a).state = .tripped ∧
      (guardOf s .a).state = .opened ∧ s.gather.entries = [] ∧
      isBefore s.now (later (91204123500 : Time) (par.closeGap * 1000)) = true ∧
      crossing.state = .opened ∧ crossing.key = ⟨4410027, groupOf par.arrangement .a⟩ ∧ crossing.stored.length < 32 ∧
      ((after (.hitDelivery .a []) (withEntries [crossing] s)).gather.entries.map (fun e => (e.hitCount, e.lastHit))) =
        [(9, 91204123500)] ∧
      ((after (.hitDelivery .a []) (withEntries [{ crossing with key := ⟨7, .timing⟩ }] s)).gather.entries.map (·.key.transponder)) =
        [7, 4410027] ∧
      ((after (.hitDelivery .a []) (withEntries [{ crossing with stored := List.replicate 32 ⟨0, 40, .a⟩ }] s)).gather.entries.map
        (fun e => (e.stored.length, e.stride, e.skip))) = [(17, 2, 0)] ∧
      ((after (.hitDelivery .a []) (withEntries [{ crossing with state := .parked }] s)).gather.entries.map
        (fun e => (e.hitCount, e.silenceDue))) = [(8, some 91204153500)] ∧
      (after (.hitDelivery .a []) (withGuard .tripped s)).gather.entries = [] ∧ 4410027 ∉ r.gather.filter ∧
      (after (.hitDelivery .a []) r).gather.entries = [] ∧
      (after (.hitDelivery .a []) { r with gather := { r.gather with filter := [4410027] } }).gather.entries.length = 1 := by
  decide +kernel

def fullOf (e : Entry) : List Entry :=
  e :: (List.range 47).map (fun k => { crossing with key := ⟨k + 100, .timing⟩, lastHit := 91204123400 })

/-- A full table: all closings; the candidate 1,999 µs and 2,000 µs before the hit, PARKED, OPEN and an OPEN mark of the exit loop, and
with a full local queue. -/
theorem witness_DeliveredHit_full_table :
    let s := withHit (aHit 91204124990 160) (stationAt par .running 91204125000)
    let open7 : Entry := { crossing with key := ⟨7, .timing⟩ }
    let parked7 : Entry := { crossing with key := ⟨7, .timing⟩, state := .parked }
    let run (es : List Entry) : State := after (.hitDelivery .a []) (withEntries es s)
    (fullOf open7).length = 48 ∧ (∀ x ∈ fullOf open7, x.key = ⟨4410027, .timing⟩ → x.state = .closing) ∧
      (∀ x ∈ (fullOf open7).tail, isBefore open7.lastHit x.lastHit = true ∧ x.key ≠ open7.key ∧ x.state ≠ .closing) ∧
      timeDiff 91204124990 open7.lastHit = 2000 ∧ isBefore s.now (later (91204124990 : Time) (par.closeGap * 1000)) = true ∧
      (run (List.replicate 48 { open7 with state := .closing })).gather.crowded = true ∧
      (run (fullOf { open7 with lastHit := 91204122991 })).gather.crowded = true ∧
      (run (fullOf open7)).gather.queue.map (fun x => (x.number, x.flags)) = [(some 1, 2)] ∧
      (run (fullOf open7)).gather.entries.length = 48 ∧ (run (fullOf open7)).gather.crowded = false ∧
      (run (fullOf { open7 with key := ⟨7, .exitLoop⟩ })).gather.queue.map (·.number) = [none] ∧
      (run (fullOf parked7)).gather.queue = [] ∧ (run (fullOf parked7)).gather.entries.length = 48 ∧
      (after (.hitDelivery .a []) { s with gather := { GatherBlock.initial with
        entries := fullOf open7, queue := List.replicate 16 (localItem (some 1) 5) } }).gather.crowded = true := by decide +kernel

/-- The stray-burst example: the silence expiry at 91,204,152,990 gives passing 1,207; dwell; a parked marker. -/
theorem witness_ExpiriesClosePasses :
    let s : State := withPlaces (some 1207) [⟨1206, none⟩]
      { stationAt par .running 91204152990 with gather := { GatherBlock.initial with entries := [crossing] } }
    let dwell : Entry := { crossing with lastHit := 91207117299, silenceDue := some 91207147299 }
    s.gather.queue.length < 16 ∧ crossing.silenceDue = some s.now ∧ reached 91204152990 s.now = true ∧
      ((after (.silenceExpiry crossing.key) s).gather.queue.map (fun x => (x.number, x.instant))) = [(some 1207, 91204120244)] ∧
      isBefore (91207117300 : Time) (later dwell.lastHit (par.closeGap * 1000)) = true ∧ dwell.dwellDue = some 91207117300 ∧
      ((after (.dwellExpiry crossing.key)
        { s with now := 91207117300, gather := { GatherBlock.initial with entries := [dwell] } }).gather.entries.map (·.state)) = [.parked] ∧
      (after (.silenceExpiry crossing.key)
        { s with gather := { GatherBlock.initial with entries := [{ crossing with state := .parked }] } }).gather.entries = [] := by
  decide +kernel

/-- Exactly as many weighted hits as the minimum, and one fewer. -/
theorem witness_InstantComesFromTheConsideredHits :
    1 ≤ par.minimumHits ∧ crossing.stored ≠ [] ∧
      crossing.stored.countP (fun h => decide (171 * 12 / 16 < h.strength)) = 3 ∧
      (∀ h ∈ crossing.stored, decide (171 * 12 / 16 < h.strength) = true → 2400 ≤ h.dt ∧ h.dt ≤ 4050) ∧
      crossing.stored.countP (fun h => decide (171 * 12 / 16 < h.strength)) < ({ par with minimumHits := 4 } : Params).minimumHits := by
  decide +kernel

def trapWaitOf (side : TrapSide) (t : Time) : TrapWait :=
  { slot := 17, side := side, instant := t, number := if side = .entry then some 1207 else none, flags := 0, expiry := t + 1000000,
    due := false }

def trapPar : Params := { par with arrangement := .trap }

def trapState (l : List TrapWait) : State :=
  withPlaces (some 1208) [⟨1207, some (logEntryAt 1207 (some 17) 5)⟩]
    { setSlot 17 { Slot.empty with state := .active, transponder := some 4410027, competitor := 44 }
        (stationAt trapPar .running 91204700000) with
      table := { TableBlock.initial with
        slots := TableBlock.initial.slots.set 17 { Slot.empty with state := .active, transponder := some 4410027, competitor := 44 }
        trap := l } }

/-- The speed, the reason and the flags of the one SPEED record of the report FIFO. -/
def soleSpeed (s : State) : Option (Option Nat × Option Reason × Flags) :=
  match s.report.fifo.map Record.body with
  | [.speed r] => some (r.speed, r.reason, r.flags)
  | _ => none

/-- No wait; a wait of the same side; pairs in both orders of arrival at the limits of each case of R50. -/
theorem witness_TrapSpeedIsJudged :
    let exit (t : Time) : TrapItem := ⟨.exit, t, none, 0⟩
    let entry (t : Time) : TrapItem := ⟨.entry, t, some 1207, 0⟩
    let w := trapWaitOf .entry 91204120244
    (trapState [w]).report.fifo.length < 128 ∧ w.slot = 17 ∧ (takeTrapItem trapPar 17 (entry 5) (trapState [])).table.trap.length = 1 ∧
      soleSpeed (takeTrapItem trapPar 17 (entry 5) (trapState [w])) = some (none, some .outOfWindow, 0) ∧
      soleSpeed (takeTrapItem trapPar 17 (exit 91204120244) (trapState [w])) = some (none, some .reversed, 0) ∧
      soleSpeed (takeTrapItem trapPar 17 (exit 91204120245) (trapState [w])) = some (some 9999, none, 32768) ∧
      soleSpeed (takeTrapItem trapPar 17 (exit 91205120244) (trapState [w])) = some (some 360, none, 0) ∧
      soleSpeed (takeTrapItem trapPar 17 (exit 91205120245) (trapState [w])) = some (none, some .outOfWindow, 0) ∧
      (logEntry (takeTrapItem trapPar 17 (exit 91204224956) (trapState [w])) 1207).bind (·.speed) = some ⟨3438, false, 0⟩ ∧
      soleSpeed (takeTrapItem trapPar 17 (entry 91204120244) (trapState [trapWaitOf .exit 91204224956])) = some (some 3438, none, 0) := by
  refine ⟨?_, ?_, ?_, ?_, ?_, ?_, ?_, ?_, ?_, ?_⟩ <;> decide +kernel

def locked (rejections : Nat) : PeerRecord :=
  { PeerRecord.initial with clock := .locked, offset := some 0, count := 65535, rejections := rejections, lastHeard := some 10,
                            staleDue := some 500010 }

/-- LOCKED at 200 µs and beyond, at one rejection and at two; ACQUIRING at counts 2 and 3; STALE with an offset. -/
theorem test_sample_boundaries :
    (sampleMove 200 (locked 2)).1.offset = some 800 ∧ (sampleMove 201 (locked 1)).1.rejections = 2 ∧
      (sampleMove 201 (locked 2)).2 = some .rejections ∧ (sampleMove 201 (locked 2)).1.offset = some 3216 ∧
      (sampleMove 0 { locked 0 with clock := .acquiring, count := 2 }).2 = none ∧
      (sampleMove 0 { locked 0 with clock := .acquiring, count := 3 }).2 = some .lock ∧
      (sampleMove 9 { locked 0 with clock := .stale }).1.offset = some 144 := by decide +kernel

def peerState (n : Nat) (r : PeerRecord) (s : State) : State :=
  match peerIndex n with
  | none => s
  | some k => setPeer k r s

theorem witness_StaleExpirySilencesThePeer :
    let s := peerState 9 (locked 0) (peerState 31 { locked 0 with clock := .acquiring, count := 1 } (stationAt par .running 500010))
    peerIndex 9 = some 8 ∧ peerIndex 31 = some 30 ∧ (peerOf s 8).clock = .locked ∧ (peerOf s 30).clock = .acquiring ∧
      (peerOf s 8).staleDue = some 500010 ∧ reached 500010 s.now = true ∧ ¬ 31 ∈ par.feeders ∧ 9 ∈ par.feeders ∧
      s.report.fifo.length < 128 ∧ s.station.fault = none ∧
      (after (.staleExpiry 9) s).station.fault.map (·.code) = some .feederSilent ∧
      (after (.staleExpiry 31) s).report.fifo = [] := by decide +kernel

/-- TIME with no attempt made and at the end of an attempt; STATUS outside CLEARING and in it. -/
theorem witness_TimeFrameAcquiresThePeer :
    let s := stationAt { par with feeders := [] } .idle 499620300
    let sent : State := { s with line := { s.line with attemptFrom := some 499620000, attemptEnd := some 499620243 } }
    let clearing := stationAt par .clearing 499620300
    let status := buildFrame 9 0 0 (.status statusFields)
    peerIndex 9 = some 8 ∧ 9 ≠ par.stationNumber ∧ (8000 : Nat) ≤ 8000 ∧ ownFrame 499620243 s = false ∧
      ownFrame 499620243 sent = false ∧ ownFrame 499620242 sent = true ∧ (peerOf s 8).clock = .unheard ∧
      (timeDiff 499620243 (later 499748820 (roundHalfUp ((max 620 8000 - min 620 8000) * 5) 1000))).natAbs ≤ 1099511627775 ∧
      (peerOf (after (.frameReceived (buildFrame 9 3120 499748820 .time) 499620243) sent) 8).offset = some (-2057440) ∧
      (peerOf (after (.frameReceived status 499620243) sent) 8).status = some (statusFields, 499620243) ∧
      clearing.station.mode = .clearing ∧ (peerOf (after (.frameReceived status 5) clearing) 8).status = none := by
  decide +kernel

theorem witness_PeerReadAnswersTheRecord :
    (stationAt par .idle 5).station.conf = some par ∧ peerIndex 1 = some 0 ∧ peerIndex 31 = some 30 ∧ peerIndex 32 = none ∧
      ((after (.peerRead 32) (stationAt par .idle 5)).report.transaction.map (·.response)) = some (bare .badArgument) ∧
      ((after (.peerRead 4) (stationAt par .idle 5)).report.transaction.map (·.response)) = some (bare .badArgument) := by
  decide +kernel

/-! ### The loop line -/

def scheduled (t : Time) (q : List Notice) (s : State) : State :=
  { withQueue .listening q s with clock := { s.clock with timeDue := some t, statusDue := some t } }

/-- Room at 23 notices and at 7 of the reserve; none at 24 and at 8; a STATUS notice that waits, and none. -/
theorem witness_IntervalsOfferTimeAndStatusNotices :
    let s := stationAt par .running 1000
    let high := List.replicate 22 (passNotice 1)
    (scheduled 1000 (high ++ [statusNotice]) s).clock.timeDue = some 1000 ∧ reached 1000 s.now = true ∧
      (∀ n ∈ high, n.cls ≠ .low) ∧ (high ++ [statusNotice]).length < 24 ∧ (high ++ [statusNotice]).countP isTimed < 8 ∧
      (List.replicate 7 statusNotice).countP isTimed < 8 ∧ 8 ≤ (List.replicate 8 statusNotice).countP isTimed ∧
      (passNotice 1 :: high ++ [statusNotice]).length = 24 ∧
      ((after .timeIntervalExpiry (scheduled 1000 (high ++ [statusNotice]) s)).line.queue.map (·.cls)).drop 22 = [.middle, .low] ∧
      statusNotice.body = .status statusFields ∧ (∀ m ∈ high, isWaitingStatus m = false) ∧
      ((after .statusIntervalExpiry (scheduled 1000 (high ++ [statusNotice]) s)).line.queue.length = 23) ∧
      ((after .statusIntervalExpiry (scheduled 1000 high s)).line.queue.length = 23) := by decide +kernel

/-- Promoted at 100,000 µs, ahead of a TIME notice that entered later (the full-queue example). -/
theorem witness_StatusPromotionMovesToMiddle :
    let late : Notice := { timeNotice with entryTime := 50 }
    let s := withQueue .deferring ([passNotice 1] ++ [timeNotice] ++ [late] ++ statusNotice :: []) (stationAt par .running 100000)
    statusNotice.cls = .low ∧ reached (later statusNotice.entryTime 100000) s.now = true ∧
      isBefore statusNotice.entryTime timeNotice.entryTime = false ∧ isBefore statusNotice.entryTime late.entryTime = true ∧
      (after .statusPromotion s).line.queue.map (·.entryTime) = [0, 0, 0, 50] ∧
      (after .statusPromotion s).line.queue.map (·.body) =
        [(passNotice 1).body, timeNotice.body, statusNotice.body, late.body] := by decide +kernel

def withCarrier (c : Option Time) (s : State) : State := { s with line := { s.line with carrierSince := c } }

def waiting (st : LineState) (q : List Notice) (s : State) : State :=
  { s with line := { s.line with state := st, queue := q, waitDue := some 1000 } }

theorem witness_CarrierAndWaitsMoveTheLineState :
    let s := stationAt par .running 20000
    (withCarrier none s).line.carrierSince = none ∧ (withCarrier (some 0) s).line.carrierSince = some 0 ∧
      (after .carrierDrop (withCarrier (some 0) (withQueue .jammed [timeNotice] s))).line.state = .deferring ∧
      (after .carrierDrop (withCarrier (some 0) (withQueue .jammed [] s))).line.state = .listening ∧
      (waiting .backoff [timeNotice] s).line.waitDue = some 1000 ∧ reached 1000 s.now = true ∧
      (after .backoffEnd (waiting .backoff [timeNotice] s)).line.state = .deferring ∧
      (after .congestionEnd (waiting .congested [] s)).line.state = .listening ∧
      reached (later 0 20000) s.now = true ∧ reached (later 0 20000) 19999 = false ∧
      (after .lineJammed (withCarrier (some 0) (withQueue .deferring [timeNotice] s))).line.state = .jammed := by decide +kernel

def quietSince (t : Time) (s : State) : State := { s with line := { s.line with quietFrom := some t } }

/-- At the Middle gap of 8 µs, and 1 µs before it. -/
theorem witness_AttemptStartsAtTheGap :
    let s := quietSince 1000 (withQueue .deferring [timeNotice] (stationAt par .running 1008))
    s.line.state = .deferring ∧ s.line.carrierSince = none ∧ s.line.quietFrom = some 1000 ∧
      (after .attemptStart s).line.state = .sending ∧ (after .attemptStart { s with now := 1007 }).line.state = .deferring := by
  decide +kernel

def sending (n : Notice) (rest : List Notice) (s : State) : State := withQueue .sending ({ n with inTransmission := true } :: rest) s

/-- TIME, STATUS, PASSING and REVISE notices without and with a follow-on, behind a High notice too; a leftover; the UNSENT entry of the
lowest number is pulled, with each owed notice. -/
theorem witness_CompletedAttemptLeavesTheQueue :
    let s := stationAt par .running 1000
    let marked (o : Owed) (e : LogEntry) : LogPlace := ⟨e.number, some { e with unsent := some o }⟩
    let unsent (o : Owed) : State :=
      withPlaces (some 327) [marked o (retimeEntry 6 (logEntryAt 325 none 5)), marked .passing (logEntryAt 326 none 5)] s
    let bodies (n : Notice) (rest : List Notice) (s : State) : List NoticeBody :=
      (after .attemptComplete (sending n rest s)).line.queue.map (·.body)
    let revise : Notice := freshNotice (.revise 301 7 .withdraw) .high 0
    (sending timeNotice [] s).line.state = .sending ∧
      (after .attemptComplete (sending timeNotice [] s)).clock.timeDue = some 51000 ∧
      (after .attemptComplete (sending statusNotice [timeNotice] s)).line.queue = [timeNotice] ∧ unsentCount s = 0 ∧
      (passNotice 301).leftOver = false ∧ bodies (passNotice 301) [timeNotice] s = [.time] ∧
      bodies { passNotice 301 with followOn := some .withdraw } [passNotice 302, timeNotice] s =
        [(passNotice 302).body, .revise 301 7 .withdraw, .time] ∧
      bodies { revise with followOn := some (.retime 5) } [timeNotice] s = [.revise 301 7 (.retime 5), .time] ∧
      bodies revise [timeNotice] s = [.time] ∧ bodies { revise with leftOver := true } [] (unsent .passing) = [] ∧
      bodies (passNotice 324) [passNotice 2] (unsent .passing) = [(passNotice 2).body] ∧
      bodies (passNotice 324) [timeNotice] (unsent .passing) = [.passing 325 4410027 6 256, .time] ∧
      bodies (passNotice 324) [timeNotice] (unsent .revise) = [.revise 325 4410027 (.retime 6), .time] ∧
      unsentCount (after .attemptComplete (sending (passNotice 324) [timeNotice] (unsent .revise))) = 1 := by decide +kernel

/-- The first, the eleventh and the twelfth collision, of both sorts of notice; the greatest and the least wait. -/
theorem witness_CollisionBacksOffOrEndsTheRun :
    let s := stationAt par .running 1000
    (sending timeNotice [] s).line.queue = { timeNotice with inTransmission := true } :: [] ∧ timeNotice.followOn = none ∧
      (after (.collision 1) (sending (passNotice 402) [] s)).line.waitDue = some 1100 ∧
      (after (.collision 2) (sending (passNotice 402) [] s)).line.state = .deferring ∧
      (after (.collision 63) (sending { passNotice 402 with collisions := 10 } [] s)).line.waitDue = some 7300 ∧
      (after (.collision 0) (sending { timeNotice with collisions := 11 } [] s)).line.state = .listening ∧
      (after (.collision 0) (sending { timeNotice with collisions := 11 } [] s)).clock.timeDue = some 51000 ∧
      (after (.collision 0) (sending { passNotice 402 with collisions := 11 } [] s)).line.waitDue = some 21000 := by decide +kernel

/-- The PASSING notice of the clock example (8,812, LOCKED), at 31 and at 32 items; a REVISE notice; a station that is no feeder;
UNCONFIGURED; the station's own number; an own frame. -/
theorem witness_FramesEnterTheIntakeOrShowADuplicate :
    let s := peerState 9 { locked 0 with offset := some (-2057540) } (stationAt par .running 500283500)
    let frame := buildFrame 9 3120 0 (.passing 8812 4410027 500412007 0)
    let retime := buildFrame 9 3120 0 (.revise 8812 4410027 (.retime 500412007))
    let item : IntakeItem := ⟨⟨9, 1⟩, 7, .withdraw⟩
    let held (k : Nat) : State := { s with line := { s.line with intake := List.replicate k item } }
    9 ∈ par.feeders ∧ 9 ≠ par.stationNumber ∧ peerIndex 9 = some 8 ∧ ownFrame 500283411 s = false ∧
      (after (.frameReceived frame 500283411) s).line.intake =
        [⟨⟨9, 8812⟩, 4410027, .passing (some 500283411) .plain 0⟩] ∧
      (after (.frameReceived retime 500283411) s).line.intake = [⟨⟨9, 8812⟩, 4410027, .retime (some 500283411) .plain⟩] ∧
      (after (.frameReceived frame 500283411) (held 31)).line.intake.length = 32 ∧
      (after (.frameReceived frame 500283411) (held 32)).line.overrun = true ∧ 10 ∉ par.feeders ∧ peerIndex 10 = some 9 ∧
      (after (.frameReceived (buildFrame 10 0 0 (.passing 1 1 0 0)) 500283411) s).line.intake = [] ∧
      receiveFrame (lineBits [0xAA, 0xC9, 0x01]) = none ∧ State.reset.station.conf = none ∧
      (receiveFrame (buildFrame 4 0 0 .time)).map rxOrigin = some par.stationNumber ∧
      ownFrame 5 { s with line := { s.line with attemptFrom := some 5 } } = true := by decide +kernel

/-- Each kind, at the ends of the number and id ranges; the whole preamble lost behind idle bits. -/
theorem witness_FramesArriveAsTheyWereSent :
    receiveFrame (buildFrame 31 65535 281474976710655 .time) = some (.time 31 281474976710655 65535) ∧
      receiveFrame (buildFrame 1 0 0 (.passing 4294967295 16777214 5 0xFFFF)) = some (.passing 1 4294967295 16777214 5 0xFFFF) ∧
      receiveFrame (List.replicate 3 false ++ (buildFrame 1 0 0 (.revise 1 1 (.retime 5))).drop 32) =
        some (.revise 1 1 1 (.retime 5)) := by decide +kernel

/-! ### The competitor table and the arbiter -/

def slotItem (i : SlotNo) (t : Time) : PendingSector := { slot := i, number := 7, instant := 5, expiry := t, due := false }

def settleItem (i : SlotNo) (t : Time) : SettleEntry :=
  { slot := i, number := 7, instant := 5, retimed := false, tag := ⟨9, 1⟩, feederInstant := 1, sector := 4, flags := 0, hold := .held,
    expiry := t, due := false }

def trapItem (i : SlotNo) (t : Time) : TrapWait :=
  { slot := i, side := .exit, instant := 5, number := none, flags := 0, expiry := t, due := false }

def dueState : State :=
  { stationAt par .running 1000 with
    table := { TableBlock.initial with
      pending := [slotItem 127 900, slotItem 0 1000], settle := [settleItem 127 1000]
      watch := [⟨127, 1000, ⟨9, 1⟩, 5, false⟩], trap := [trapItem 127 1000] } }

theorem witness_DueEntriesJoinTheTimerQueue :
    dueState.table.pending = [] ++ slotItem 127 900 :: [slotItem 0 1000] ∧ reached 900 dueState.now = true ∧
      dueState.table.settle = [] ++ settleItem 127 1000 :: [] ∧ reached 1000 dueState.now = true ∧
      dueState.table.watch = [] ++ ⟨127, 1000, ⟨9, 1⟩, 5, false⟩ :: [] ∧ dueState.table.trap = [] ++ trapItem 127 1000 :: [] ∧
      (dueItems (after (.pairWaitDue 127) (after (.settleDue 127) (after (.watchDue 127) (after (.trapWaitDue 127)
        dueState))))).map (·.kind) = [.pending, .settle, .watch, .trap] := by decide +kernel

def held (cmd : PortCommand) (arrival : Time) (s : State) : State := withPort (.working (.request cmd arrival)) s

/-- A request 4,001 µs and 4,000 µs old; waiting requesters at the bypass limit and above it; none waiting; no configuration. -/
theorem witness_ArbiterChoosesByPromotionBypassAndMode :
    let s := held (.slotRead 3) 1000 (stationAt par .running 5001)
    let l : State := { stationAt par .running 9 with gather := { GatherBlock.initial with queue := [localItem (some 1) 5] } }
    s.station.conf = some par ∧ ((par.portPromotion * 1000 : Nat) : Int) < timeDiff s.now 1000 ∧ promoted par s = true ∧
      timeDiff 5000 1000 ≤ ((par.portPromotion * 1000 : Nat) : Int) ∧ promoted par { s with now := 5000 } = false ∧
      choice par { s with now := 5000 } = some .port ∧ choice par l = some .loc ∧
      par.bypassLimit < bypassOf ⟨5, 0, 0, 0⟩ .loc ∧ ¬ par.bypassLimit < bypassOf ⟨4, 0, 0, 0⟩ .loc ∧
      choice par (stationAt par .running 9) = none ∧ State.reset.station.conf = none := by decide +kernel

/-- Each of the four requesters in a state whose choice does not name it: no requester waits. -/
theorem witness_ArbiterChooses_grant_not_named (r : Requester) :
    ∀ p, (stationAt par .running 9).station.conf = some p → choice p (stationAt par .running 9) ≠ some r := by
  intro p hp
  obtain rfl : par = p := Option.some.inj hp
  rw [show choice par (stationAt par .running 9) = none by decide +kernel]
  exact Option.some_ne_none r |>.symm

theorem witness_GrantRaisesTheCountsOfThosePassedOver :
    let s : State := { held (.slotRead 3) 0 (stationAt par .running 5000) with
      line := { LineBlock.initial with intake := [⟨⟨9, 1⟩, 7, .withdraw⟩] }
      table := { TableBlock.initial with bypass := ⟨0, 15, 0, 3⟩ } }
    s.station.haltDue = false ∧ s.report.port = .working (.request (.slotRead 3) 0) ∧ choice par s = some .port ∧
      (after .portGrant s).table.bypass = ⟨0, 15, 0, 0⟩ := by decide +kernel

/-- A feeder passing that replaces the only due watch by one that is due at once: TIMER's count of 3 becomes 0, and TIMER waits. -/
theorem witness_GrantRaises_rearmed_at_once :
    let x : IntakeItem := ⟨⟨9, 2⟩, 4410027, .passing (some 10) .plain 0⟩
    let e : Watch := ⟨17, 40, ⟨9, 1⟩, 16, true⟩
    let s : State := { stationAt par .running 5000 with
      line := { LineBlock.initial with intake := [x] }
      table := { TableBlock.initial with
        slots := TableBlock.initial.slots.set 17 { carSlot 5 with expected := 16, confidence := 3 }, watch := [e]
        bypass := ⟨0, 0, 3, 0⟩ } }
    s.station.haltDue = false ∧ choice par s = some .line ∧ s.line.intake = x :: [] ∧ slotFor x.transponder s = some 17 ∧
      s.table.watch = [e] ∧ s.table.pending = [] ∧ (slotOf s 17).last = none ∧
      (after .lineGrant s).table.bypass.timer = 0 ∧ waits (after .lineGrant s) .timer = true := by decide +kernel

/-- Each command at the ends of its argument ranges, in the states in which it is held. -/
theorem witness_HeldCommandsBecomePortRequests :
    let r := stationAt par .running 9
    let i := stationAt par .idle 9
    r.report.port = .ready ∧ stationState r = .running ∧ stationState i = .idle ∧ stationState (stationAt par .halting 9) = .halting ∧
      (after (.slotRead 127) r).report.port = .working (.request (.slotRead 127) 9) ∧
      (after (.snapshot 127 1) r).report.port = .working (.request (.snapshot 127 1) 9) ∧
      (after (.snapshot 113 16) r).report.port = .ready ∧
      (after (.rosterPut 16777214 9999) i).report.port = .working (.request (.rosterPut 16777214 9999) 9) ∧
      (after .rosterClear i).report.port = .working (.request .rosterClear 9) ∧
      (after (.withdraw 4294967295) i).report.port = .working (.request (.withdraw 4294967295) 9) ∧
      (after (.retime 1 281474976710655) r).report.port = .working (.request (.retime 1 281474976710655) 9) ∧
      (after (.mark 1 0) r).report.port = .working (.request (.mark 1 0) 9) ∧
      (after .startSession i).report.port = .working (.request .startSession 9) ∧
      (after .halt r).report.port = .working (.request .halt 9) := by decide +kernel

/-- The refusals that come before a request is held. -/
theorem test_held_commands_refused :
    let code (c : Instr) (s : State) : Option ResponseCode := (after c s).report.transaction.map (·.response.code)
    code (.mark 1 0) (stationAt par .idle 9) = some .refusedState ∧ code .startSession (stationAt par .halting 9) = some .busy ∧
      code .halt (stationAt par .clearing 9) = some .busy ∧ code (.rosterPut 1 10000) (stationAt par .idle 9) = some .badArgument ∧
      code (.slotRead 128) State.reset = some .refusedState ∧ code (.withdraw 0) (stationAt par .idle 9) = some .badArgument ∧
      code .rosterClear (held .halt 1 (stationAt par .idle 9)) = some .busy := by decide +kernel

def carState (t : Time) : State := setSlot 17 (carSlot 100) (stationAt par .running t)

def fullTableOf (x : Slot) (s : State) : State := { s with table := { s.table with slots := Vector.replicate 128 x } }

theorem witness_RosterGrantsLoadAndClearSlots :
    slotFor 4410027 (carState 9) = some 17 ∧ (slotOf (carState 9) 17).rostered = false ∧
      (slotOf (grantRosterPut 4410027 44 (carState 9)).2 17).rostered = true ∧
      (grantRosterPut 4410027 44 (setSlot 17 { carSlot 100 with rostered := true } (carState 9))).1 = bare .duplicate ∧
      slotFor 5 (carState 9) = none ∧ (slotOf (carState 9) 0).state = .free ∧
      (grantRosterPut 5 44 (carState 9)).1 = okWith (.slotNumber 0) ∧
      (grantRosterPut 5 44 (fullTableOf (carSlot 100) (carState 9))).1 = bare .full ∧
      (grantRosterClear (carState 9)).1 = okWith (.freed 1) ∧
      ((logEntry (grantRosterClear (withPlaces (some 8) [⟨7, some (logEntryAt 7 (some 17) 5)⟩] (carState 9))).2 7).map (·.released)) =
        some true := by decide +kernel

/-- The track-day example: slot 58 was last active at 6,480,000,000, slot 31 later; at 600,000,000 µs idle, and just under. -/
def trackDay (t : Time) : State :=
  setSlot 58 (carSlot 6480000000) (setSlot 31 (carSlot 6500000000)
    (fullTableOf { carSlot 6400000000 with rostered := true } (stationAt par .running t)))

theorem witness_ReclaimTakesTheLongestIdleSlot :
    (∀ j, (slotOf (trackDay 7260000000) j).state ≠ .free) ∧ (giveSlot 9120455 (trackDay 7260000000)).map (·.1) = some 58 ∧
      ((giveSlot 9120455 (withPlaces (some 9) [⟨7, some (logEntryAt 7 (some 31) 5)⟩, ⟨8, some (logEntryAt 8 (some 58) 5)⟩]
        (trackDay 7260000000))).map (fun r => r.2.log.places.map (fun q => q.entry.map (·.released)))) =
          some [some false, some true] ∧
      (giveSlot 9120455 (trackDay 7080000000)).map (·.1) = some 58 ∧ (giveSlot 9120455 (trackDay 7079999999)).map (·.1) = none := by
  decide +kernel

theorem witness_LocalGrantProcessesAFirstPassing :
    let s : State := withPlaces (some 2) [⟨1, none⟩] (withQueue .backoff [passNotice 9]
      { stationAt lapPar .running 500 with gather := { GatherBlock.initial with queue := [localItem (some 1) 5] } })
    s.station.haltDue = false ∧ choice lapPar s = some .loc ∧ s.gather.queue = localItem (some 1) 5 :: [] ∧ s.gather.entries = [] ∧
      lapPar.arrangement = .single ∧ lapPar.admission = .anyone ∧ lapPar.feeders = [] ∧ lapPar.lapLine = true ∧
      slotFor 4410027 s = none ∧ (slotOf s 0).state = .free ∧ s.table.watch = [] ∧ s.report.fifo.length < 128 ∧
      (∀ m ∈ s.line.queue, m.cls = .high) ∧ s.line.queue.length < 24 ∧ s.line.state ≠ .listening ∧
      (slotOf (after .localGrant s) 0).transponder = some 4410027 ∧ (after .localGrant s).line.queue.length = 2 := by decide +kernel

def lineGranted (x : IntakeItem) (s : State) : State := { s with line := { LineBlock.initial with intake := [x] } }

theorem witness_LineGrantKeepsTheFeederRecord :
    let s := lineGranted ⟨⟨9, 3377⟩, 4410027, .passing (some 91172717911) .plain 0⟩ (carState 91172760000)
    let later : State := setSlot 17 { carSlot 100 with last := some ⟨1, 91172717911, 0, none, false⟩ } s
    s.station.haltDue = false ∧ choice par s = some .line ∧ hasFlag 0 .repeated = false ∧ slotFor 4410027 s = some 17 ∧
      s.table.pending = [] ∧ s.table.watch = [] ∧ (slotOf s 17).last = none ∧ (slotOf s 17).confidence < par.forecastThreshold ∧
      isBefore 91172717911 91172717911 = false ∧
      (slotOf (after .lineGrant s) 17).feeder = some ⟨⟨9, 3377⟩, some 91172717911, .plain, 0⟩ ∧
      (slotOf (after .lineGrant later) 17).feeder = some ⟨⟨9, 3377⟩, some 91172717911, .plain, 0⟩ ∧
      (slotOf (after .lineGrant s) 17).lastActivity = some 91172760000 := by decide +kernel

/-- A REVISE item that finds no slot, the feeder record, the settle entry, and the last issued sector with each outcome (max sector
600,000,000 µs). -/
theorem witness_LineGrant_revisions :
    let tag : Tag := ⟨9, 1⟩
    let f : FeederRecord := ⟨tag, some 5, .plain, 0⟩
    let issued (v : Option Nat) (w : Flags) (c : IntakeBody) : State :=
      withPlaces (some 8) [⟨7, some (logEntryAt 7 (some 17) 1000000000)⟩] (lineGranted ⟨tag, 4410027, c⟩
        (setSlot 17 { carSlot 100 with issued := some ⟨7, some tag, v, w⟩ } (carState 1000000500)))
    let value (s : State) : Option (Option Nat × Flags) := (slotOf (after .lineGrant s) 17).issued.map (fun z => (z.value, z.flags))
    let count (s : State) : Nat := (after .lineGrant s).report.fifo.length
    let held := lineGranted ⟨tag, 4410027, .withdraw⟩ (setSlot 17 { carSlot 100 with feeder := some f } (carState 9))
    let settling : State := lineGranted ⟨tag, 4410027, .retime (some 6) .soft⟩
      { carState 9 with table := { (carState 9).table with settle := [settleItem 17 900] } }
    choice par held = some .line ∧ slotFor 5 held = none ∧ (slotOf (after .lineGrant held) 17).feeder = none ∧
      (after .lineGrant settling).table.settle.map (·.hold) = [.retimed (some 6) .soft] ∧
      (logEntry (issued none 0 .withdraw) 7).map (·.withdrawn) = some false ∧
      (value (issued (some 4) 0 .withdraw)).map (·.1) = some none ∧ count (issued none 0 .withdraw) = 0 ∧
      value (issued (some 4) 64 (.retime (some 400000000) .soft)) = some (some 600000000, 4160) ∧
      (value (issued (some 4) 64 (.retime (some 399999999) .soft))).map (·.1) = some none ∧
      count (issued (some 600000000) 0 (.retime (some 400000000) .plain)) = 0 ∧
      count (issued none 0 (.retime (some 1000000000) .plain)) = 0 := by decide +kernel

theorem witness_TimerGrantEndsThePendingSector :
    let e : PendingSector := { slot := 17, number := 1207, instant := 91204120244, expiry := 91204653400, due := true }
    let s : State := withPlaces (some 1208) [⟨1207, some (logEntryAt 1207 (some 17) 5)⟩]
      { carState 91204653400 with table := { (carState 0).table with pending := [e] } }
    s.station.haltDue = false ∧ choice par s = some .timer ∧ s.table.pending = [e] ∧ s.table.settle = [] ∧ s.table.watch = [] ∧
      s.table.trap = [] ∧ s.report.fifo.length < 128 ∧ logEntry s 1207 = some (logEntryAt 1207 (some 17) 5) ∧
      (after .timerGrant s).table.pending = [] ∧ (after .timerGrant s).report.fifo.length = 1 := by decide +kernel

/-- A settle expiry as it stands, recomputed at the max sector and beyond it, and withdrawn; the expiry of a trap wait. -/
theorem witness_TimerGrant_settle_and_trap :
    let base (e : SettleEntry) : State := withPlaces (some 8) [⟨7, some (logEntryAt 7 (some 17) 5)⟩]
      { carState 1000 with table := { (carState 0).table with settle := [{ e with slot := 17, due := true }] } }
    let e : SettleEntry := { settleItem 17 1000 with instant := 1000000000, feederInstant := 999999000, sector := 1000, flags := 4160 }
    let outcome (e : SettleEntry) : Option (Option Nat × Flags × Option Reason) :=
      match (after .timerGrant (base e)).report.fifo.map Record.body with
      | [RecordBody.sector r] => some (r.sector, r.flags, r.reason)
      | _ => none
    let trap : State := { carState 1000 with table := { (carState 0).table with trap := [{ trapItem 17 1000 with due := true }] } }
    choice par (base e) = some .timer ∧ outcome e = some (some 1000, 4160, none) ∧
      outcome { e with retimed := true, feederInstant := 400000000 } = some (some 600000000, 12352, none) ∧
      outcome { e with hold := .retimed (some 399999999) .plain } = some (none, 64, some .revisedOut) ∧
      (outcome { e with hold := .withdrawn }).map (·.2.2) = some (some .withdrawn) ∧
      (after .timerGrant (base e)).table.settle = [] ∧ choice par trap = some .timer ∧ (after .timerGrant trap).table.trap = [] ∧
      (after .timerGrant trap).report.fifo.length = 1 := by decide +kernel

/-! ### Laps, sectors, forecasts, corrections -/

def lapsOf (s : State) : State := setSlot 23 { lapSlot with transponder := some 4410027 } s

/-- The passing exactly at the repeat window, and one microsecond inside it. -/
theorem witness_SecondPassingCountsALap :
    let s := withPlaces (some 372) [⟨371, none⟩] (lapsOf (stationAt lapPar .running 1182200000))
    slotFor 4410027 s = some 23 ∧ (slotOf s 23).last.map (·.number) = some 318 ∧ (slotOf s 23).last.bind (·.span) = none ∧
      (lapPar.repeatWindow * 1000 : Nat) ≤ timeDiff 1145000000 1140000000 ∧ s.report.fifo.length < 127 ∧ s.line.queue.length < 24 ∧
      (slotOf (processPassing lapPar (passingAt 371 1145000000) s) 23).lapCount = 3 ∧
      (slotOf (processPassing lapPar (passingAt 371 1145000000) s) 23).bestLap = some 5000000 := by decide +kernel

theorem witness_RepeatPassingChangesNothingElse :
    let s := withPlaces (some 372) [⟨371, none⟩] (lapsOf (stationAt lapPar .running 1182200000))
    timeDiff 1144999999 1140000000 < (lapPar.repeatWindow * 1000 : Nat) ∧ s.report.fifo.length < 128 ∧
      (slotOf (processPassing lapPar (passingAt 371 1144999999) s) 23).lapCount = 2 ∧
      (logEntry (processPassing lapPar (passingAt 371 1144999999) s) 371).map (·.flags) = some 32 := by decide +kernel

/-- The sector of the worked example, 31,402,333 µs, in either order; and a difference at the max sector. -/
theorem witness_EitherOrderGivesTheSameSector :
    let s := carState 91204153400
    let f : FeederRecord := ⟨⟨9, 3377⟩, some 91172717911, .plain, 0⟩
    let x := passingAt 1207 91204120244
    par.feeders ≠ [] ∧ par.pairWait ≠ 0 ∧ par.settleTime ≠ 0 ∧ slotFor 4410027 s = some 17 ∧ (slotOf s 17).last = none ∧
      (slotOf s 17).feeder = none ∧ (slotOf s 17).confidence < par.forecastThreshold ∧ s.table.settle = [] ∧
      0 < timeDiff 91204120244 91172717911 ∧ timeDiff 91204120244 91172717911 ≤ (par.maxSector * 1000 : Nat) ∧
      (processPassing par x (takeFeederPassing par 4410027 f s)).table.settle.map (·.sector) = [31402333] ∧
      (takeFeederPassing par 4410027 f (processPassing par x s)).table.settle.map (·.sector) = [31402333] := by decide +kernel

/-- A difference of the tolerance, ⌊31,402,333 × 13 / 256⌋ = 1,594,649 µs, and one more; a flagged sector. -/
theorem witness_CleanSectorsTeachTheForecast :
    let r (w : Flags) : SectorRec := pairedRec State.reset 17 1 5 ⟨6, 7715⟩ 1 32996982 w
    (r 0).outcome = .paired ∧ (r 0).sector = some 32996982 ∧ forecastSlot.expected ≠ 0 ∧ hasFlag (r 2048).flags .short = true ∧
      ((32996982 : Int) - 31402333).natAbs ≤ 31402333 * par.tolerance / 256 ∧
      31402333 * par.tolerance / 256 < ((32996983 : Int) - 31402333).natAbs ∧
      (slotAfterSector par (r 0) forecastSlot).confidence = 6 ∧ (slotAfterSector par (r 2048) forecastSlot).confidence = 5 := by
  decide +kernel

/-- The forecast example, with E at the max sector, and a replacement at and within half of the span. -/
theorem witness_WatchDueMakesAForecastPassing :
    let s := forecastState
    let t := expireWatch forecastPar 17 s
    let x (i : Time) : NewPassing := passingAt 2131 i
    let narrow : Params := { forecastPar with maxSector := 31403 }
    forecastPar.feeders ≠ [] ∧ s.table.watch = [⟨17, 1599252916, ⟨6, 7715⟩, 31402333, true⟩] ∧
      (slotOf s 17).feeder.map (·.tag) = some ⟨6, 7715⟩ ∧ (slotOf s 17).feeder.bind (·.instant) = some 1560000000 ∧
      (withPlaces none [] s).log.counter = none ∧ s.log.counter = some 2118 ∧ s.station.mode = .running ∧
      31402333 ≤ narrow.maxSector * 1000 ∧ forecastPar.settleTime ≠ 0 ∧ s.table.pending = [] ∧ s.table.settle = [] ∧
      (slotOf t 17).confidence = 2 ∧ t.table.settle.map (·.flags) = [64] ∧
      (slotOf t 17).last.bind (·.span) = some 31402333 ∧
      31402333 ≤ 2 * (timeDiff 1607103500 1591402333).natAbs ∧ 2 * (timeDiff 1607103499 1591402333).natAbs < 31402333 ∧
      (slotOf (replaceForecast forecastPar 17 (x 1607103500) t) 17).last.map (·.number) = some 2118 ∧
      (slotOf (replaceForecast forecastPar 17 (x 1607103499) t) 17).last.map (·.number) = some 2040 ∧
      (slotOf (replaceForecast forecastPar 17 (x 1607103499) t) 17).lapCount = 12 ∧
      (slotOf (replaceForecast forecastPar 17 (x 1607103499) t) 17).feeder = forecastSlot.feeder := by decide +kernel

/-- 2,048 numbers back is GONE, 2,047 is not; a passing without slot; a retime to the grant and after it; an exhausted counter. -/
theorem witness_CorrectionsFollowTheLog :
    let s (e : LogEntry) : State := withPlaces (some 5001) [⟨e.number, some e⟩] (carState 91204200000)
    let plain := logEntryAt 4000 none 5
    let slotted := setSlot 17 { carSlot 100 with last := some ⟨4000, 5, 0, none, false⟩ } (s (logEntryAt 4000 (some 17) 5))
    (grantWithdraw par 4000 (s { plain with withdrawn := true })).1 = bare .refusedState ∧
      (grantWithdraw par 2952 (s plain)).1 = bare .gone ∧ (grantWithdraw par 2953 (s plain)).1 = bare .notYet ∧
      plain.slot = none ∧ plain.unsent = none ∧ (grantWithdraw par 4000 (s plain)).1 = bare .ok ∧
      (grantRetime par 4000 5 (s plain)).1 = bare .refusedState ∧
      slotOfPassing slotted (logEntryAt 4000 (some 17) 5) = some 17 ∧ isBefore slotted.now 91204200001 = true ∧
      (grantRetime par 4000 91204200001 slotted).1 = bare .badArgument ∧ (grantRetime par 4000 91204200000 slotted).1 = bare .ok ∧
      (grantMark par 5 91204200001 (s plain)).1 = bare .badArgument ∧ slotFor 5 (s plain) = none ∧
      (grantMark par 5 91204200000 (withPlaces none [] (s plain))).1 = bare .refusedState ∧
      (grantMark par 5 91204200000 (s plain)).1 = okWith (.passingNumber 5001) := by decide +kernel

/-- The lap example: passing 318 withdrawn, and retimed one microsecond after passing 260; a MARK of its transponder. -/
theorem witness_Corrections_accepted :
    let e : LogEntry := { logEntryAt 318 (some 23) 1140000000 with lap := some ⟨2, 48500000, true⟩ }
    let s : State := { withPlaces (some 319) [⟨318, some e⟩] (lapsOf (stationAt lapPar .running 1150000000)) with
      report := { ReportBlock.initial with fifo := [] } }
    let w := (grantWithdraw lapPar 318 s).2
    let r := (grantRetime lapPar 318 1091500001 s).2
    let m := grantMark lapPar 4410027 1150000000 s
    slotOfPassing s e = some 23 ∧ s.table.pending = [] ∧ s.table.settle = [] ∧ (grantWithdraw lapPar 318 s).1 = bare .ok ∧
      (slotOf w 23).lapCount = 1 ∧ (slotOf w 23).bestLap = some 91500000 ∧ isBefore s.now 1091500001 = false ∧
      isBefore 1091500000 1091500001 = true ∧ (grantRetime lapPar 318 1091500001 s).1 = bare .ok ∧
      (slotOf r 23).lastLap = some 1 ∧ (logEntry r 318).map (fun y => (y.instant, y.retimed)) = some (1091500001, true) ∧
      isBefore 1140000000 1150000000 = true ∧ m.1 = okWith (.passingNumber 319) ∧
      (logEntry m.2 319).map (·.flags) = some 128 := by decide +kernel

/-- The lap of a passing processed before its slot was cleared: the slot holds the same transponder again, and keeps its laps (R98,
R115). -/
theorem witness_Corrections_released :
    let e : LogEntry := { logEntryAt 318 (some 23) 1140000000 with lap := some ⟨2, 48500000, true⟩, released := true }
    let s : State := withPlaces (some 400) [⟨318, some e⟩] (lapsOf (stationAt lapPar .running 1150000000))
    holdsTransponder e.transponder (slotOf s 23) = true ∧ (grantWithdraw lapPar 318 s).1 = bare .ok ∧
      (slotOf (grantWithdraw lapPar 318 s).2 23).lapCount = 2 ∧
      (grantRetime lapPar 318 1140000001 s).1 = bare .refusedState := by decide +kernel

/-- Revisions offered: an owed PASSING, a notice in transmission, waiting notices of both kinds, none, and a full queue. -/
theorem witness_Corrections_revisions :
    let s := withPlaces (some 8) [⟨7, some (logEntryAt 7 none 5)⟩] (stationAt par .running 9)
    let owed := withPlaces (some 8) [⟨7, some { logEntryAt 7 none 5 with unsent := some .passing }⟩] s
    let queue (q : List Notice) (r : Revision) : List NoticeBody :=
      (offerRevision 7 7 r (withQueue .backoff q s)).line.queue.map (·.body)
    (logEntry owed 7).bind (·.unsent) = some .passing ∧ unsentCount (offerRevision 7 7 .withdraw owed) = 0 ∧
      offerRevision 7 7 (.retime 6) owed = owed ∧ refersTo 7 (passNotice 7) = true ∧ refersTo 7 (passNotice 8) = false ∧
      unsentCount s = 0 ∧ queue [passNotice 8, passNotice 7, timeNotice] (.retime 6) =
        [(passNotice 8).body, .passing 7 7 6 256, .time] ∧
      queue [passNotice 7, timeNotice] .withdraw = [.time] ∧
      queue [freshNotice (.revise 7 7 (.retime 5)) .high 0] .withdraw = [.revise 7 7 .withdraw] ∧
      (offerRevision 7 7 .withdraw (sending (passNotice 7) [] s)).line.queue.map (·.followOn) = [some .withdraw] ∧
      queue [passNotice 8, timeNotice] .withdraw = [(passNotice 8).body, .revise 7 7 .withdraw, .time] ∧
      unsentCount (offerRevision 7 7 .withdraw (withQueue .backoff (List.replicate 24 timeNotice) s)) = 1 := by decide +kernel

/-! ### The port, sessions and configuration -/

theorem witness_RecordsEnterTheFifoOrLockTheCapture :
    let s := stationAt par .running 20000
    (withRecords 127 s).report.fifo.length < 128 ∧ 128 ≤ (withRecords 128 s).report.fifo.length ∧
      (withRecords 1 s).report.fifo = { issued := 0, body := guardRec } :: [] ∧
      ((par.attentionAge * 1000 : Nat) : Int) ≤ timeDiff s.now 0 ∧
      (after .attentionAgeExpiry (withRecords 1 s)).report.attn = true ∧
      (after .attentionAgeExpiry { withRecords 1 s with now := 19999 }).report.attn = false := by decide +kernel

/-- Counts of 1 and 8 of a FIFO of 5; an empty FIFO in IMMEDIATE and in WAIT mode; the read timer at its expiry. -/
theorem witness_ReportReadTakesTheOldestRecords :
    let s := stationAt par .running 1000
    (withRecords 5 s).report.port = .ready ∧ (withRecords 5 s).report.fifo ≠ [] ∧
      ((after (.reportRead 8) (withRecords 5 s)).report.transaction.map (·.takes)) = some 5 ∧
      ((after (.reportRead 1) (withRecords 5 s)).report.transaction.map (·.takes)) = some 1 ∧ s.report.fifo = [] ∧
      ((after (.reportRead 8) (stationAt { par with readMode := .immediate } .idle 9)).report.transaction.map (·.response.code)) =
        some .empty ∧
      (after (.reportRead 1) s).report.port = .working (.report 1 21000) ∧ reached 21000 21000 = true ∧
      (after .readTimerExpiry (withPort (.working (.report 1 21000)) { s with now := 21000 })).report.port =
        .done (.kept ⟨.empty, .records 0 false []⟩) ∧
      ((after (.reportRead 1) (held .halt 5 s)).report.transaction.map (·.response.code)) = some .busy ∧
      ((after (.reportRead 9) s).report.transaction.map (·.response.code)) = some .badArgument := by decide +kernel

theorem witness_PollsCollectAndDeliveryTakes :
    let s := stationAt par .running 1000
    let d := withPort (.done (.atPoll 8)) (withRecords 3 s)
    s.report.port = .ready ∧ (held .halt 5 s).report.port = .working (.request .halt 5) ∧
      (withPort (.done (.kept (bare .ok))) s).report.port = .done (.kept (bare .ok)) ∧ d.report.port = .done (.atPoll 8) ∧
      (after .poll d).report.transaction.map (·.takes) = some 3 ∧ (after .responseDelivered (after .poll d)).report.port = .ready ∧
      (after .responseDelivered (after .poll d)).report.fifo = [] ∧
      sentAfterRequest (after .responseDelivered (after (.peerRead 40) s)) 4 = [0, 0, 0xFF, 0xFF] ∧
      (after .deselect (after .poll d)).report.port = .done (.atPoll 8) ∧
      argLength 20 ≠ some 0 ∧ 21 ≤ 21 := by decide +kernel

/-- LOG_READ at the last number and past it, at a count of 32; a sticky flag that STATUS_READ returns. -/
theorem witness_LogAndStatusReadsShowTheStation :
    (statusView (withQueue .sending [timeNotice, { passNotice 3 with inTransmission := true, collisions := 2 }]
      (stationAt par .idle 5))).head = some (1, 2) ∧
    (statusView (withQueue .deferring [timeNotice, passNotice 3] (stationAt par .idle 5))).head = some (3, 0) ∧
    4294967264 + 32 ≤ 4294967296 ∧ 4294967296 < 4294967265 + 32 ∧
      ((after (.logRead 4294967265 32) State.reset).report.transaction.map (·.response.code)) = some .badArgument ∧
      ((after (.logRead 4294967264 32) State.reset).report.transaction.map (·.response.code)) = some .ok ∧
      (after .statusRead (setCrowded (stationAt par .idle 5))).gather.crowded = false := by decide +kernel

/-- Values at and outside the ends of their ranges; a width of 3 between 2 and 4; refused arguments; a level at G. -/
theorem witness_ConfigureTakesTheClampedValues :
    let code (a : ConfigArgs) (s : State) : Option ResponseCode :=
      (after (.configure a ⟨220, 219, 0⟩) s).report.transaction.map (·.response.code)
    (stationAt par .idle 5).station.conf ≠ none ∧ State.reset.station.conf = none ∧ State.reset.line.queue = [] ∧
      code argsOk (stationAt par .idle 5) = some .refusedState ∧ code { argsOk with stationNumber := 32 } State.reset = some .badArgument ∧
      code { argsOk with feeder2 := 9 } State.reset = some .badArgument ∧
      code { argsOk with splitMask := 1 } State.reset = some .badArgument ∧
      (after (.configure argsOk ⟨220, 219, 0⟩) State.reset).station.conf = some par ∧
      (after (.configure argsOk ⟨220, 219, 0⟩) State.reset).station.clamped = false ∧
      (guardOf (after (.configure argsOk ⟨220, 219, 0⟩) State.reset) .a).filterDue = some 4000 ∧
      ((after (.configure { argsOk with position := 8001 } ⟨0, 0, 0⟩) State.reset).station.conf.map (·.position)) = some 8000 ∧
      code argsOk (withQueue .deferring [timeNotice] State.reset) = some .ok ∧
      clampWidth 3 = 4 ∧ clampWidth 6 = 8 ∧ clampWidth 0 = 2 := by decide +kernel

theorem witness_ConfigReadReturnsTheParameters :
    State.reset.station.conf = none ∧ (stationAt par .idle 5).station.conf = some par ∧
      ((after .configRead (stationAt par .idle 5)).report.transaction.map (·.frame.length)) = some 69 := by decide +kernel

theorem witness_StartSessionClearsTheSession :
    let s := { stationAt par .clearing 2000 with station := { (stationAt par .clearing 2000).station with clearingDue := some 2000 } }
    s.station.conf = some par ∧ s.station.clearingDue = some 2000 ∧ reached 2000 s.now = true ∧
      (after .clearingEnd s).station.mode = .running ∧
      (grantStartSession (setSlot 17 { carSlot 5 with rostered := true } (stationAt par .idle 5))).2.gather.filter = [4410027] := by
  decide +kernel

/-- A host HALT and one of station control, with a pass that closes and a pending sector that ends. -/
theorem witness_HaltEndsTheSession :
    let s : State := { held .halt 0 (carState 9) with
      gather := { GatherBlock.initial with entries := [crossing] }, table := { (carState 9).table with pending := [slotItem 17 900] } }
    let d : State := { s with station := { s.station with haltDue := true } }
    s.station.mode = .running ∧ s.station.haltDue = false ∧ s.report.port = .working (.request .halt 0) ∧
      choice par { s with now := 9000 } = some .port ∧ d.station.haltDue = true ∧
      (after .portGrant { s with now := 9000 }).station.mode = .idle ∧ (after .portGrant { s with now := 9000 }).table.pending = [] ∧
      (after .stationHalt d).gather.queue.map (·.number) = [some 1] ∧ (after .stationHalt d).report.port = d.report.port := by
  decide +kernel

theorem witness_RequestFramesDecodeToTheirCommands :
    (Instr.mark 16777215 281474976710655).wellFormed = true ∧
      encodeRequest (.mark 4410027 91204120244) = some [0x14, 0x09, 0x43, 0x4A, 0xAB, 0x00, 0x15, 0x3C, 0x30, 0x6E, 0xB4] ∧
      (encodeRequest (.configure argsOk ⟨1, 2, 3⟩)).map (·.length) = some 67 ∧
      ((encodeRequest (.configure argsOk ⟨1, 2, 3⟩)).bind (decodeRequest ⟨1, 2, 3⟩)) = some (.configure argsOk ⟨1, 2, 3⟩) := by
  decide +kernel

/-! ### A state in use that meets every invariant -/

def busyRecord : Record := { issued := 900, body := guardRec }

/-- A RUNNING station: guard A TRIPPED, peer 9 LOCKED, DEFERRING with a TIME notice, slot 17 with a pending sector, number 1 drawn and
logged, number 2 reserved, a record in the FIFO, a fault held, and a POLL waiting. -/
def busy : State :=
  withPlaces (some 3) [⟨1, some (logEntryAt 1 (some 17) 5)⟩, ⟨2, none⟩] (peerState 9 (locked 2) (setSlot 17 (carSlot 100)
    (withGuard .tripped (withQueue .deferring [timeNotice]
      { (offerFault .lineJammed none (stationAt par .running 1000)) with
        pending := [Instr.poll]
        table := { TableBlock.initial with pending := [⟨17, 1, 5, 2000, false⟩], bypass := ⟨0, 15, 3, 0⟩ }
        report := { fifo := [busyRecord], overrun := none, attn := true, port := .ready, transaction := none } }))))

theorem busy_steps : ∃ t, step busy = .next t := ⟨_, rfl⟩

theorem witness_EveryStepKeepsCapacities : WithinCapacities busy := by
  constructor
  case bypass => intro r; cases r <;> decide +kernel
  case passes => intro e h; cases h
  all_goals decide +kernel

theorem witness_EveryStepKeepsGuardsSound : GuardsSound busy := by
  constructor
  · intro ch; cases ch <;> (constructor <;> decide +kernel)
  · intro ch; cases ch <;> decide +kernel

theorem witness_EveryStepKeepsPeersSound : PeersSound busy := by
  intro k
  constructor <;> (revert k; decide +kernel)

theorem witness_EveryStepKeepsTheLogSound : LogSound busy := by
  refine ⟨?_, ?_, by decide +kernel⟩
  · intro n h; cases h; decide
  · intro q h
    have hq : q ∈ ([⟨1, some (logEntryAt 1 (some 17) 5)⟩, ⟨2, none⟩] : List LogPlace) := h
    simp only [List.mem_cons, List.not_mem_nil, or_false] at hq
    obtain rfl | rfl := hq
    · exact ⟨⟨2, rfl, by decide, by decide, by decide⟩, fun e he => by cases he; rfl⟩
    · exact ⟨⟨2, rfl, by decide, by decide, by decide⟩, fun e he => by cases he⟩

theorem busy_slots : ∀ i, (slotOf busy i).state ≠ .free → i = 17 := by decide +kernel

theorem busy_holds (i : SlotNo) (t : Nat) (h : holdsTransponder t (slotOf busy i) = true) : i = 17 := by
  refine busy_slots i ?_
  simp only [holdsTransponder, Bool.and_eq_true, bne_iff_ne] at h
  exact h.1

theorem witness_EveryStepKeepsTheTableSound : TableSound busy := by
  refine ⟨?_, ?_, by decide +kernel, by decide +kernel, by decide +kernel, by decide +kernel⟩
  · intro i
    constructor <;> (revert i; decide +kernel)
  · intro i j t hi hj
    rw [busy_holds i t hi, busy_holds j t hj]

theorem witness_EveryStepKeepsTheLineSound : LineSound busy := by
  constructor <;> decide +kernel

theorem witness_EveryStepKeepsTimedListsToRunning : TimedOnlyInRunning busy := by
  constructor <;> decide +kernel

theorem witness_EveryStepKeepsAttnSound : AttnSound busy := ⟨fun _ => rfl, fun _ => .inl rfl⟩

end Sys2Proof.Tests
end

section
/-! PROOFS. Chapter 4: what a usable sample does to a peer record (R61 to R63). -/

namespace Sys2Proof.Machine

/-! ## The quarter step of the filter -/

/-- Rounding away from zero rounds the magnitude up at a half. -/
theorem natAbs_roundHalfAway (x : Int) (d : Nat) : (roundHalfAway x d).natAbs = roundHalfUp x.natAbs d := by
  unfold roundHalfAway
  split
  · rw [Int.natAbs_neg, Int.natAbs_natCast]
  · rw [Int.natAbs_natCast]

theorem roundHalfAway_four_nearest (x : Int) : (4 * roundHalfAway x 4 - x).natAbs ≤ 2 := by
  have h := (roundHalfAway_bounds x 4 (by decide)).1
  omega

theorem roundHalfAway_four_of_half (x : Int) (h : x.natAbs % 4 = 2) : 4 * (roundHalfAway x 4).natAbs = x.natAbs + 2 := by
  have hb := roundHalfUp_bounds x.natAbs 4 (by decide)
  rw [natAbs_roundHalfAway]
  omega

/-- A filter step never leaves the span between the old offset and 16 × sample: a step within 2 of the difference when taken four
times has the sign of the difference and no greater magnitude. -/
theorem filteredOffset_between (offset sample : Int) :
    min offset (16 * sample) ≤ filteredOffset offset sample ∧ filteredOffset offset sample ≤ max offset (16 * sample) := by
  have hn := roundHalfAway_four_nearest (16 * sample - offset)
  unfold filteredOffset
  generalize roundHalfAway (16 * sample - offset) 4 = moved at *
  omega

/-! ## The move in each clock state -/

theorem sampleMove_of_unheard (sample : Int) (r : PeerRecord) (h : r.clock = .unheard) :
    sampleMove sample r = (acquirePeer sample r, some .firstSample) := by simp only [sampleMove, h]

theorem sampleMove_of_stale (sample : Int) (r : PeerRecord) (h : r.clock = .stale) :
    sampleMove sample r = (acquirePeer sample r, some .resumed) := by simp only [sampleMove, h]

/-- The count comes to 4 with a sample exactly from 3 on, the saturated count included. -/
theorem four_le_countUp_iff (n : Nat) : 4 ≤ countUp n ↔ 3 ≤ n := by
  unfold countUp Config.countLimit
  split <;> omega

theorem sampleMove_of_acquiring (sample : Int) (r : PeerRecord) (h : r.clock = .acquiring) :
    sampleMove sample r = if 3 ≤ r.count then ({ filterPeer sample r with clock := .locked }, some .lock)
      else (filterPeer sample r, none) := by
  have hcount : 4 ≤ (filterPeer sample r).count ↔ 3 ≤ r.count := four_le_countUp_iff r.count
  simp only [sampleMove, h, acquiringSample, hcount]

theorem sampleMove_of_locked (sample : Int) (r : PeerRecord) (h : r.clock = .locked) :
    sampleMove sample r = if (16 * sample - r.offset.getD 0).natAbs ≤ 3200 then (filterPeer sample r, none)
      else if r.rejections < 2 then ({ r with rejections := r.rejections + 1 }, none)
      else (acquirePeer sample r, some .rejections) := by
  simp only [sampleMove, h, lockedSample, Config.rejectLimit]
  by_cases hrej : r.rejections < 2
  · rw [if_neg (show ¬ 3 ≤ r.rejections + 1 by omega), if_pos hrej]
  · rw [if_pos (show 3 ≤ r.rejections + 1 by omega), if_neg hrej]

/-- Whatever the record held before, at most 2 rejections stand after a usable sample. -/
theorem sampleMove_rejections_le (sample : Int) (r : PeerRecord) : (sampleMove sample r).1.rejections ≤ 2 := by
  cases h : r.clock with
  | unheard => rw [sampleMove_of_unheard sample r h]; exact Nat.zero_le 2
  | stale => rw [sampleMove_of_stale sample r h]; exact Nat.zero_le 2
  | acquiring =>
    rw [sampleMove_of_acquiring sample r h]
    split <;> exact Nat.zero_le 2
  | locked =>
    rw [sampleMove_of_locked sample r h]
    split
    · exact Nat.zero_le 2
    · split
      case isTrue hrej => exact hrej
      case isFalse => exact Nat.zero_le 2

/-- Settles O17, from the move in each clock state; the step that exists is the quarter step of the filter (R62). -/
theorem samplesAcquireLockAndReject : Obligations.SamplesAcquireLockAndReject := by
  intro sample r
  obtain ⟨hlow, hhigh⟩ := filteredOffset_between (r.offset.getD 0) sample
  exact ⟨roundHalfAway (16 * sample - r.offset.getD 0) 4, roundHalfAway_four_nearest _, roundHalfAway_four_of_half _, hlow, hhigh,
    sampleMove_of_unheard sample r, sampleMove_of_stale sample r, sampleMove_of_acquiring sample r, sampleMove_of_locked sample r,
    sampleMove_rejections_le sample r⟩

end Sys2Proof.Machine
end

section
/-! PROOFS. Chapter 10: the configuration and the fault capture as the host reads them (R161, R167, R168). -/

namespace Sys2Proof.Machine

theorem answeredWith_respond (r : Response) (s : State) : AnsweredWith r s (respond r s) := ⟨responseFrame r, respond_eq r s⟩

/-! ## CONFIG_READ -/

theorem exec_configRead (s : State) : exec .configRead s = .next (respond (configAnswer s) s) := rfl

theorem configAnswer_of_unconfigured (s : State) (h : s.station.conf = none) : configAnswer s = ⟨.refusedState, .nothing⟩ := by
  simp only [configAnswer, h, bare]

theorem configAnswer_of_configured (s : State) (p : Params) (h : s.station.conf = some p) :
    configAnswer s = ⟨.ok, .config p s.station.clamped⟩ := by
  simp only [configAnswer, h, okWith]

/-- Settles O56: the answer follows the configuration held, and a response leaves station control as it is. -/
theorem configReadReturnsTheParameters : Obligations.ConfigReadReturnsTheParameters := by
  intro s
  refine ⟨respond (configAnswer s) s, exec_configRead s, respond_station s _, fun hnone => ?unconfigured, fun p hp => ?configured⟩
  case unconfigured =>
    rw [configAnswer_of_unconfigured s hnone]
    exact answeredWith_respond _ s
  case configured =>
    rw [configAnswer_of_configured s p hp]
    exact answeredWith_respond _ s

/-! ## The fault capture -/

/-- The capture unlocked and ATTN judged: all that FAULT_CLEAR does beside its answer (see `exec_faultClear`). -/
def unlockFault (s : State) : State := judgeAttn { s with station := { s.station with fault := none } }

theorem exec_faultRead (s : State) : exec .faultRead s = .next (respond ⟨.ok, .fault s.station.fault⟩ s) := rfl

theorem exec_faultClear (s : State) : exec .faultClear s = .next (respond ⟨.ok, .fault s.station.fault⟩ (unlockFault s)) := rfl

@[simp] theorem unlockFault_now (s : State) : (unlockFault s).now = s.now := rfl

@[simp] theorem unlockFault_station (s : State) : (unlockFault s).station = { s.station with fault := none } := rfl

/-- Unlocking reaches the capture and ATTN, and nothing else. -/
theorem unlockFault_eq (s : State) : unlockFault s = { s with
    station := { s.station with fault := none }
    report := { s.report with attn := (unlockFault s).report.attn } } := rfl

@[simp] theorem offerFault_station_fault (code : FaultCode) (detail : Option Nat) (s : State) :
    (offerFault code detail s).station.fault = some (captureFault code detail s.now s.station.fault) := rfl

@[simp] theorem captureFault_of_unlocked (code : FaultCode) (detail : Option Nat) (time : Time) :
    captureFault code detail time none = { code := code, time := time, detail := detail, lost := false } := rfl

@[simp] theorem captureFault_of_locked (code : FaultCode) (detail : Option Nat) (time : Time) (f : FaultCapture) :
    captureFault code detail time (some f) = { f with lost := true } := rfl

/-- What FAULT_CLEAR leaves takes a fault as an unlocked capture does. -/
theorem offerFault_after_faultClear (code : FaultCode) (detail : Option Nat) (r : Response) (s : State) :
    (offerFault code detail (respond r (unlockFault s))).station.fault =
      some { code := code, time := s.now, detail := detail, lost := false } := by
  rw [offerFault_station_fault, respond_now, respond_station, unlockFault_now, unlockFault_station, captureFault_of_unlocked]

/-- Settles O57: FAULT_CLEAR answers the capture it finds and then unlocks it, so a fault taken first has gone through `captureFault`
into the answer, and a fault taken after meets an unlocked capture. -/
theorem faultClearAnswersAndUnlocks : Obligations.FaultClearAnswersAndUnlocks := by
  intro s
  refine ⟨?read, ?clearFirst, fun code detail => ?faultFirst⟩
  case read => exact ⟨_, exec_faultRead s, answeredWith_respond _ s⟩
  case clearFirst =>
    refine ⟨respond ⟨.ok, .fault s.station.fault⟩ (unlockFault s), responseFrame ⟨.ok, .fault s.station.fault⟩, exec_faultClear s, ?_,
      fun code detail => offerFault_after_faultClear code detail _ s⟩
    rw [respond_report_attn, respond_eq]
    conv_lhs => rw [unlockFault_eq]
  case faultFirst =>
    refine ⟨_, captureFault code detail s.now s.station.fault, exec_faultClear (offerFault code detail s), ?unlocked, ?response,
      fun hunlocked => ?itself, fun f hlocked => ?lost⟩
    case unlocked => rw [respond_station, unlockFault_station]
    case response => rw [respond_report_transaction, Option.map_some, offerFault_station_fault]
    case itself => rw [hunlocked, captureFault_of_unlocked]
    case lost => rw [hlocked, captureFault_of_locked]

end Sys2Proof.Machine
end

section
/-! PROOFS. The moves that the pairing unit, the forecast unit and the trap logic are made of: every operation on a slot is a chain of
them, so what each move keeps, every operation keeps. -/

namespace Sys2Proof.Machine

/-! ## Moves on a slot -/

/-- What every change of a slot that stays in use leaves: its identity, and a saturating lap count. -/
structure SlotKept (y x : Slot) : Prop where
  transponder : x.transponder = y.transponder
  competitor : x.competitor = y.competitor
  rostered : x.rostered = y.rostered
  state : x.state = y.state ∨ x.state = .active
  laps : y.lapCount ≤ Config.countLimit → x.lapCount ≤ Config.countLimit

/-- What every result or mark written into a log entry leaves: what the entry is about, and a withdrawal. -/
structure EntryKept (f : LogEntry → LogEntry) : Prop where
  number : ∀ e, (f e).number = e.number
  transponder : ∀ e, (f e).transponder = e.transponder
  slot : ∀ e, (f e).slot = e.slot
  released : ∀ e, (f e).released = e.released
  withdrawn : ∀ e, e.withdrawn = true → (f e).withdrawn = true

/-- One move of the units that work on slot `i`. A watch is armed where `arms` holds; the other timed lists are added to in RUNNING
alone. -/
inductive SlotMove (arms : Prop) (i : SlotNo) : State → State → Prop
  | slot {s : State} {x : Slot} (h : SlotKept (slotOf s i) x) : SlotMove arms i s (setSlot i x s)
  | logged {s : State} (n : Nat) {f : LogEntry → LogEntry} (h : EntryKept f) : SlotMove arms i s (updateLog n f s)
  | written {s : State} {n : Nat} {e : LogEntry} (h : e.number = n) : SlotMove arms i s (writeLog n e s)
  | recorded {s : State} (b : RecordBody) : SlotMove arms i s (offerRecord b s)
  | noticed {s : State} (n : Nat) {b : NoticeBody} (o : Owed) (h : isTimed (freshNotice b .high s.now) = false) :
    SlotMove arms i s (offerHigh n b o s)
  | revised {s : State} (n transponder : Nat) (r : Revision) : SlotMove arms i s (offerRevision n transponder r s)
  | pendingRemoved {s : State} : SlotMove arms i s (removePending i s)
  | settleRemoved {s : State} : SlotMove arms i s (removeSettle i s)
  | watchRemoved {s : State} : SlotMove arms i s (removeWatch i s)
  | trapRemoved {s : State} : SlotMove arms i s (removeTrap i s)
  | pendingAdded {s : State} {e : PendingSector} (hi : e.slot = i) (hn : pendingOf s i = none) (hr : isRunning s = true) :
    SlotMove arms i s (addPending e s)
  | settleAdded {s : State} {e : SettleEntry} (hi : e.slot = i) (hn : settleOf s i = none) (hr : isRunning s = true)
    (hl : s.table.settle.length < Config.settlePlaces) : SlotMove arms i s (addSettle e s)
  | settleReplaced {s : State} {e f : SettleEntry} (hi : e.slot = i) (hf : settleOf s i = some f) (hr : isRunning s = true) :
    SlotMove arms i s (addSettle e (removeSettle i s))
  | watchAdded {s : State} {e : Watch} (ha : arms) (hi : e.slot = i) (hn : watchOf s i = none)
    (hl : s.table.watch.length < Config.watchPlaces) : SlotMove arms i s (addWatch e s)
  | trapAdded {s : State} {e : TrapWait} (hi : e.slot = i) (hn : trapOf s i = none) (hr : isRunning s = true) :
    SlotMove arms i s (addTrap e s)
  | pendingChanged {s : State} {f : PendingSector → PendingSector} (h : ∀ e, (f e).slot = e.slot) :
    SlotMove arms i s { s with table := { s.table with pending := s.table.pending.map f } }
  | settleChanged {s : State} {f : SettleEntry → SettleEntry} (h : ∀ e, (f e).slot = e.slot) :
    SlotMove arms i s { s with table := { s.table with settle := s.table.settle.map f } }
  | trapChanged {s : State} {f : TrapWait → TrapWait} (h : ∀ e, (f e).slot = e.slot) :
    SlotMove arms i s { s with table := { s.table with trap := s.table.trap.map f } }
  | timerSettled {s : State} : SlotMove arms i s (settleTimer s)
  | watchFullSet {s : State} : SlotMove arms i s (setWatchFull s)

/-- A chain of moves on slot `i`. -/
abbrev SlotMoves (arms : Prop) (i : SlotNo) : State → State → Prop := Relation.ReflTransGen (SlotMove arms i)

theorem SlotMove.spares {arms : Prop} {i : SlotNo} {s t : State} (h : SlotMove arms i s t) : SparesRest s t := by
  cases h with
  | recorded b => exact offerRecord_spares b s
  | noticed n o _ => exact offerHigh_spares n _ o s
  | revised n tr r => exact offerRevision_spares n tr r s
  | _ => exact ⟨rfl, rfl, rfl, rfl, rfl, rfl⟩

theorem SlotMoves.spares {arms : Prop} {i : SlotNo} {s t : State} (h : SlotMoves arms i s t) : SparesRest s t := by
  induction h with
  | refl => exact .refl _
  | tail _ hm ih => exact ih.trans hm.spares

theorem isRunning_of_spares {s t : State} (h : SparesRest s t) : isRunning t = isRunning s := by
  unfold isRunning stationState
  rw [h.station]

variable {arms : Prop} {i : SlotNo} {s t : State} (p : Params)

/-! ## Entries found by their links -/

theorem pendingOf_slot {e : PendingSector} (h : pendingOf s i = some e) : e.slot = i := by
  simpa using List.find?_some h

theorem settleOf_slot {e : SettleEntry} (h : settleOf s i = some e) : e.slot = i := by
  simpa using List.find?_some h

theorem watchOf_slot {e : Watch} (h : watchOf s i = some e) : e.slot = i := by
  simpa using List.find?_some h

theorem trapOf_slot {e : TrapWait} (h : trapOf s i = some e) : e.slot = i := by
  simpa using List.find?_some h

/-! ## Changes of a slot and of a log entry -/

theorem slotKept_of_eq {y x : Slot} (hs : x.state = y.state) (ht : x.transponder = y.transponder) (hc : x.competitor = y.competitor)
    (hr : x.rostered = y.rostered) (hl : x.lapCount = y.lapCount) : SlotKept y x :=
  ⟨ht, hc, hr, .inl hs, fun h => hl ▸ h⟩

theorem learnSector_kept (v : Nat) (x : Slot) : SlotKept x (learnSector p v x) := slotKept_of_eq rfl rfl rfl rfl rfl

theorem slotAfterSector_kept (r : SectorRec) (x : Slot) : SlotKept x (slotAfterSector p r x) := by
  unfold slotAfterSector
  dsimp only
  split
  · split <;> exact slotKept_of_eq rfl rfl rfl rfl rfl
  · exact slotKept_of_eq rfl rfl rfl rfl rfl

theorem uncountLap_kept (b : Bool) (x : Slot) : SlotKept x (uncountLap b x) := by
  unfold uncountLap
  split <;> exact ⟨rfl, rfl, rfl, .inl rfl, fun h => (Nat.sub_le _ _).trans h⟩

theorem forgetPassing_kept (n : Nat) (x : Slot) : SlotKept x (forgetPassing s n x) := by
  unfold forgetPassing
  split
  · exact slotKept_of_eq rfl rfl rfl rfl rfl
  · split <;> exact slotKept_of_eq rfl rfl rfl rfl rfl

theorem restoreSpent_kept (x : Slot) : SlotKept x (restoreSpent x) := by
  unfold restoreSpent
  split <;> exact slotKept_of_eq rfl rfl rfl rfl rfl

theorem countedSlot_kept (x : NewPassing) (w : Flags) (b : Bool) (y : Slot) : SlotKept y (countedSlot x w b y) :=
  slotKept_of_eq rfl rfl rfl rfl rfl

theorem lappedSlot_kept (lap : Int) (y : Slot) : SlotKept y (lappedSlot lap y) :=
  ⟨rfl, rfl, rfl, .inl rfl, fun h => countUp_le _ h⟩

theorem SlotKept.trans {x y z : Slot} (h : SlotKept x y) (k : SlotKept y z) : SlotKept x z :=
  ⟨k.transponder.trans h.transponder, k.competitor.trans h.competitor, k.rostered.trans h.rostered,
    k.state.elim (fun e => h.state.imp (e.trans) (e.trans)) .inr, fun hx => k.laps (h.laps hx)⟩

/-- A result written into an entry leaves what the entry is about. -/
theorem entryKept_of_eq {f : LogEntry → LogEntry}
    (h : ∀ e, (f e).number = e.number ∧ (f e).transponder = e.transponder ∧ (f e).slot = e.slot ∧ (f e).released = e.released ∧
      (e.withdrawn = true → (f e).withdrawn = true)) : EntryKept f :=
  ⟨fun e => (h e).1, fun e => (h e).2.1, fun e => (h e).2.2.1, fun e => (h e).2.2.2.1, fun e => (h e).2.2.2.2⟩

/-- An update that writes the lap result, the sector result, the speed result, the instant or a mark alone. -/
theorem entryKept_of_fields {f : LogEntry → LogEntry} (h : ∀ e, f e = { e with
    lap := (f e).lap, sector := (f e).sector, speed := (f e).speed, withdrawn := e.withdrawn, retimed := (f e).retimed,
    instant := (f e).instant, unsent := (f e).unsent }) : EntryKept f :=
  entryKept_of_eq fun e => by rw [h e]; exact ⟨rfl, rfl, rfl, rfl, id⟩

/-! ## One move more -/

theorem setSlot_moves {x : Slot} (h : SlotMoves arms i s t) (k : SlotKept (slotOf t i) x) : SlotMoves arms i s (setSlot i x t) :=
  h.tail (.slot k)

theorem updateLog_moves {n : Nat} {f : LogEntry → LogEntry} (h : SlotMoves arms i s t) (k : EntryKept f) :
    SlotMoves arms i s (updateLog n f t) := h.tail (.logged n k)

theorem offerRecord_moves {b : RecordBody} (h : SlotMoves arms i s t) : SlotMoves arms i s (offerRecord b t) :=
  h.tail (.recorded b)

theorem offerRecords_moves {bs : List RecordBody} (h : SlotMoves arms i s t) : SlotMoves arms i s (offerRecords bs t) := by
  induction bs generalizing t with
  | nil => exact h
  | cons b bs ih => exact ih (offerRecord_moves h)

theorem offerPassing_moves {n transponder : Nat} {instant : Time} {w : Flags} (h : SlotMoves arms i s t) :
    SlotMoves arms i s (offerPassing n transponder instant w t) := h.tail (.noticed n .passing rfl)

theorem offerRevision_moves {n transponder : Nat} {r : Revision} (h : SlotMoves arms i s t) :
    SlotMoves arms i s (offerRevision n transponder r t) := h.tail (.revised n transponder r)

theorem removePending_moves (h : SlotMoves arms i s t) : SlotMoves arms i s (removePending i t) := h.tail .pendingRemoved

theorem removeSettle_moves (h : SlotMoves arms i s t) : SlotMoves arms i s (removeSettle i t) := h.tail .settleRemoved

theorem removeWatch_moves (h : SlotMoves arms i s t) : SlotMoves arms i s (removeWatch i t) := h.tail .watchRemoved

theorem removeTrap_moves (h : SlotMoves arms i s t) : SlotMoves arms i s (removeTrap i t) := h.tail .trapRemoved

theorem setFeeder_moves {f : Option FeederRecord} (h : SlotMoves arms i s t) : SlotMoves arms i s (setFeeder i f t) :=
  setSlot_moves h (slotKept_of_eq rfl rfl rfl rfl rfl)

theorem setSpent_moves {f : Option FeederRecord} (h : SlotMoves arms i s t) : SlotMoves arms i s (setSpent i f t) :=
  setSlot_moves h (slotKept_of_eq rfl rfl rfl rfl rfl)

theorem touchSlot_moves (h : SlotMoves arms i s t) : SlotMoves arms i s (touchSlot i t) :=
  setSlot_moves h ⟨rfl, rfl, rfl, .inr rfl, id⟩

/-! ## Sectors -/

theorem putSector_moves {r : SectorRec} (h : SlotMoves arms i s t) (hi : r.slot = i) : SlotMoves arms i s (putSector p r t) := by
  subst hi
  exact updateLog_moves (setSlot_moves h (slotAfterSector_kept p r _)) (entryKept_of_fields fun _ => rfl)

theorem issueSector_moves {r : SectorRec} (h : SlotMoves arms i s t) (hi : r.slot = i) :
    SlotMoves arms i s (issueSector p r t) := offerRecord_moves (putSector_moves p h hi)

/-- The record of a settle entry is about its slot. -/
theorem settleRec_slot (s : State) (e : SettleEntry) : (settleRec p s e).slot = e.slot := by
  have recomputed (u : Time) (soft : Bool) : (recomputedRec p s e u soft).slot = e.slot := by
    unfold recomputedRec
    dsimp only
    split <;> rfl
  unfold settleRec
  split
  · split
    · exact recomputed _ _
    · rfl
  · exact recomputed _ _
  · rfl
  · rfl

theorem pairAtOnce_moves {x : SectorPair} {w : Flags} (h : SlotMoves arms i s t) :
    SlotMoves arms i s (pairAtOnce p i x w t).1 := putSector_moves p h rfl

theorem settleOf_putSector (r : SectorRec) (j : SlotNo) : settleOf (putSector p r s) j = settleOf s j := rfl

theorem takePair_moves {x : SectorPair} (h : SlotMoves arms i s t) : SlotMoves arms i s (takePair p i x t).1 := by
  unfold takePair
  split
  · exact pairAtOnce_moves p h
  · rename_i hr
    have hr : isRunning t = true := by simpa using hr
    split
    · exact pairAtOnce_moves p h
    · split
      · rename_i e he
        have hp : SlotMoves arms i s (putSector p (earlyRec p t e) t) :=
          putSector_moves p h ((settleRec_slot p t e).trans (settleOf_slot he))
        exact hp.tail (.settleReplaced rfl he hr)
      · rename_i hn
        split
        · rename_i hl
          exact h.tail (.settleAdded rfl hn hr hl)
        · exact pairAtOnce_moves p h

theorem expireSettle_moves (h : SlotMoves arms i s t) : SlotMoves arms i s (expireSettle p i t) := by
  unfold expireSettle
  split
  · exact h
  · rename_i e he
    exact removeSettle_moves (issueSector_moves p h ((settleRec_slot p t e).trans (settleOf_slot he)))

theorem expirePending_moves (h : SlotMoves arms i s t) : SlotMoves arms i s (expirePending p i t) := by
  unfold expirePending
  split
  · exact h
  · rename_i e he
    exact removePending_moves (issueSector_moves p h (pendingOf_slot he))

/-! ## Watches -/

theorem armFresh_moves (h : SlotMoves True i s t) (hn : watchOf t i = none) : SlotMoves True i s (armFresh p i t) := by
  unfold armFresh
  split
  · exact h
  · split
    · exact h
    · split
      · split
        · rename_i hl
          exact h.tail (.watchAdded trivial rfl hn hl)
        · exact h.tail .watchFullSet
      · exact h

theorem armWatch_moves (h : SlotMoves True i s t) : SlotMoves True i s (armWatch p i t) :=
  armFresh_moves p ((removeWatch_moves h).tail .timerSettled) (watchOf_removeWatch i t)

/-! ## Withdrawal -/

theorem withdrawLap_moves {n : Nat} {c : Bool} (h : SlotMoves arms i s t) : SlotMoves arms i s (withdrawLap i n c t) := by
  unfold withdrawLap
  split
  · exact offerRecord_moves (setSlot_moves h (uncountLap_kept _ _))
  · exact h

theorem withdrawPending_moves {n : Nat} (h : SlotMoves arms i s t) : SlotMoves arms i s (withdrawPending p i n t) := by
  unfold withdrawPending
  split
  · exact h
  · rename_i e he
    split
    · exact issueSector_moves p (removePending_moves h) (pendingOf_slot he)
    · exact h

theorem withdrawSettle_moves {n : Nat} (h : SlotMoves arms i s t) : SlotMoves arms i s (withdrawSettle p i n t) := by
  unfold withdrawSettle
  split
  · exact h
  · split
    · exact issueSector_moves p (removeSettle_moves h) rfl
    · exact h

theorem amendSector_moves {x : IssuedSector} {v : Option Nat} {c : Reason} {w : Flags} (h : SlotMoves arms i s t) :
    SlotMoves arms i s (amendSector i x v c w t) :=
  offerRecord_moves (updateLog_moves (setSlot_moves h (slotKept_of_eq rfl rfl rfl rfl rfl)) (entryKept_of_fields fun _ => rfl))

theorem withdrawIssued_moves {n : Nat} (h : SlotMoves arms i s t) : SlotMoves arms i s (withdrawIssued i n t) := by
  unfold withdrawIssued
  split
  · exact h
  · split
    · exact amendSector_moves h
    · exact h

theorem withdrawTrap_moves {n : Nat} (h : SlotMoves arms i s t) : SlotMoves arms i s (withdrawTrap i n t) := by
  unfold withdrawTrap
  split
  · exact h
  · split
    · exact removeTrap_moves h
    · exact h

theorem withdrawInSlot_moves {n : Nat} {c : Bool} (h : SlotMoves arms i s t) :
    SlotMoves arms i s (withdrawInSlot p i n c t) := by
  have hc := withdrawTrap_moves (n := n) (withdrawIssued_moves (n := n) (withdrawSettle_moves p (n := n) (withdrawPending_moves p (n := n)
    (setSlot_moves (withdrawLap_moves (n := n) (c := c) h) (forgetPassing_kept (s := withdrawLap i n c t) n _)))))
  unfold withdrawInSlot
  dsimp only
  split
  · exact setSlot_moves hc (restoreSpent_kept _)
  · exact hc

theorem markWithdrawn_kept : EntryKept markWithdrawn := entryKept_of_eq fun _ => ⟨rfl, rfl, rfl, rfl, fun _ => rfl⟩

theorem withdrawOutside_moves {n transponder : Nat} {b : RecordBody} (h : SlotMoves arms i s t) :
    SlotMoves arms i s (withdrawOutside n transponder b t) :=
  offerRecord_moves (offerRevision_moves (updateLog_moves h markWithdrawn_kept))

/-! ## Trap logic -/

theorem writeSpeed_moves {a b : TrapItem} (h : SlotMoves arms i s t) : SlotMoves arms i s (writeSpeed p a b t) := by
  unfold writeSpeed
  split
  · exact updateLog_moves h (entryKept_of_fields fun _ => rfl)
  · exact h

theorem judgePair_moves {a b : TrapItem} (h : SlotMoves arms i s t) : SlotMoves arms i s (judgePair p i a b t) :=
  removeTrap_moves (writeSpeed_moves p (offerRecord_moves h))

theorem endWait_moves {x : TrapItem} (h : SlotMoves arms i s t) : SlotMoves arms i s (endWait i x t) :=
  removeTrap_moves (offerRecord_moves h)

theorem takeTrapItem_moves {x : TrapItem} (h : SlotMoves arms i s t) (hr : isRunning t = true) :
    SlotMoves arms i s (takeTrapItem p i x t) := by
  unfold takeTrapItem
  split
  · rename_i hn
    exact h.tail (.trapAdded rfl hn hr)
  · rename_i w _
    split
    · exact judgePair_moves p h
    · exact judgePair_moves p h
    · have he : SlotMoves arms i s (endWait i (heldItem w) t) := endWait_moves h
      exact he.tail (.trapAdded rfl (trapOf_removeTrap i _) ((isRunning_of_spares (endWait_spares i _ t)).trans hr))

theorem isRunning_of_trapActive (h : trapActive p s = true) : isRunning s = true := by
  simp only [trapActive, Bool.and_eq_true] at h
  exact h.2

theorem expireTrap_moves (h : SlotMoves arms i s t) : SlotMoves arms i s (expireTrap i t) := by
  unfold expireTrap
  split
  · exact h
  · exact endWait_moves h

/-! ## Local passings -/

theorem replaceForecast_moves {x : NewPassing} (h : SlotMoves arms i s t) : SlotMoves arms i s (replaceForecast p i x t) := by
  unfold replaceForecast
  split
  · exact h
  · split
    · exact h
    · split
      · exact withdrawInSlot_moves p (withdrawOutside_moves h)
      · exact h

theorem countPassing_moves {x : NewPassing} {w : Flags} (h : SlotMoves arms i s t) :
    SlotMoves arms i s (countPassing p i x w t).1 := by
  unfold countPassing
  dsimp only
  split
  · exact updateLog_moves (setSlot_moves h ((countedSlot_kept x w true _).trans (lappedSlot_kept _ _)))
      (entryKept_of_fields fun _ => rfl)
  · exact setSlot_moves h (countedSlot_kept x w false _)

theorem unpairAtOnce_moves {r : SectorRec} (h : SlotMoves arms i s t) (hi : r.slot = i) :
    SlotMoves arms i s (unpairAtOnce p r t).1 := putSector_moves p h hi

theorem makePending_moves {x : NewPassing} (h : SlotMoves arms i s t) (hn : pendingOf t i = none) :
    SlotMoves arms i s (makePending p i x t).1 := by
  unfold makePending
  split
  · exact unpairAtOnce_moves p h rfl
  · split
    · exact unpairAtOnce_moves p h rfl
    · rename_i hr
      exact h.tail (.pendingAdded rfl hn (by simpa using hr))

theorem meetFeeder_moves {x : NewPassing} {f : FeederRecord} {u : Time} (h : SlotMoves arms i s t) (hn : pendingOf t i = none) :
    SlotMoves arms i s (meetFeeder p i x f u t).1 := by
  unfold meetFeeder
  dsimp only
  split
  · exact makePending_moves p h hn
  · split
    · exact takePair_moves p (setSpent_moves (setFeeder_moves h))
    · exact makePending_moves p (setFeeder_moves h) hn

theorem meetRecord_moves {x : NewPassing} (h : SlotMoves arms i s t) (hn : pendingOf t i = none) :
    SlotMoves arms i s (meetRecord p i x t).1 := by
  unfold meetRecord
  split
  · exact makePending_moves p h hn
  · split
    · exact unpairAtOnce_moves p (setFeeder_moves h) rfl
    · exact meetFeeder_moves p h hn

theorem sectorStep_moves {x : NewPassing} (h : SlotMoves arms i s t) : SlotMoves arms i s (sectorStep p i x t).1 := by
  unfold sectorStep
  split
  · exact h
  · split
    · rename_i hn
      exact meetRecord_moves p h hn
    · rename_i e he
      exact meetRecord_moves p (putSector_moves p (removePending_moves h) (pendingOf_slot he)) (pendingOf_removePending i t)

theorem offerToTrap_moves {x : NewPassing} {w : Flags} (h : SlotMoves arms i s t) :
    SlotMoves arms i s (offerToTrap p i x w t) := by
  unfold offerToTrap
  split
  · rename_i ha
    exact takeTrapItem_moves p h (isRunning_of_trapActive p (Bool.and_eq_true_iff.mp ha).1)
  · exact h

theorem countAndPair_moves {x : NewPassing} {w : Flags} (h : SlotMoves arms i s t) :
    SlotMoves arms i s (countAndPair p i x w t) :=
  offerToTrap_moves p (offerPassing_moves (offerRecords_moves (offerRecord_moves
    (sectorStep_moves p (removeWatch_moves (countPassing_moves p h))))))

theorem processInSlot_moves {x : NewPassing} (h : SlotMoves arms i s t) : SlotMoves arms i s (processInSlot p i x t) := by
  have ha : SlotMoves arms i s (if x.kind = .forecast then t else replaceForecast p i x (touchSlot i t)) := by
    split
    · exact h
    · exact replaceForecast_moves p (touchSlot_moves h)
  unfold processInSlot
  dsimp only
  generalize (if x.kind = .forecast then t else replaceForecast p i x (touchSlot i t)) = a at ha ⊢
  split
  · exact offerPassing_moves (offerRecord_moves (ha.tail (.written rfl)))
  · exact countAndPair_moves p (ha.tail (.written rfl))

/-! ## Feeder passings and revisions -/

theorem becomeRecord_moves {f : FeederRecord} (h : SlotMoves True i s t) : SlotMoves True i s (becomeRecord p i f t) :=
  armWatch_moves p (setSpent_moves (setFeeder_moves h))

theorem meetPending_moves {e : PendingSector} {f : FeederRecord} (h : SlotMoves True i s t) :
    SlotMoves True i s (meetPending p i e f t) := by
  unfold meetPending
  split
  · exact setSpent_moves (issueSector_moves p (removePending_moves h) rfl)
  · dsimp only
    split
    · exact becomeRecord_moves p h
    · split
      · exact offerRecords_moves (takePair_moves p (setSpent_moves (removePending_moves h)))
      · exact h

theorem feederInSlot_moves {f : FeederRecord} (h : SlotMoves True i s t) : SlotMoves True i s (feederInSlot p i f t) := by
  unfold feederInSlot
  split
  · exact meetPending_moves p h
  · split
    · exact h
    · exact becomeRecord_moves p h

theorem reviseRecord_moves {tag : Tag} {r : FeederRevision} (h : SlotMoves True i s t) :
    SlotMoves True i s (reviseRecord p i tag r t) := by
  unfold reviseRecord
  split
  · exact armWatch_moves p (setFeeder_moves h)
  · exact h

theorem reviseSpent_moves {tag : Tag} {r : FeederRevision} (h : SlotMoves arms i s t) :
    SlotMoves arms i s (reviseSpent i tag r t) := by
  unfold reviseSpent
  split
  · exact setSpent_moves h
  · exact h

theorem reviseSettle_moves {tag : Tag} {r : FeederRevision} (h : SlotMoves arms i s t) :
    SlotMoves arms i s (reviseSettle i tag r t) := h.tail (.settleChanged fun e => by split <;> rfl)

theorem amendIssued_moves {x : IssuedSector} {e : LogEntry} {r : FeederRevision} (h : SlotMoves arms i s t) :
    SlotMoves arms i s (amendIssued p i x e r t) := by
  unfold amendIssued
  split
  · split
    · exact amendSector_moves h
    · exact h
  · exact h
  · unfold amendByRetime
    dsimp only
    split
    · split
      · exact h
      · exact amendSector_moves h
    · split
      · exact h
      · exact amendSector_moves h

theorem reviseIssued_moves {tag : Tag} {r : FeederRevision} (h : SlotMoves arms i s t) :
    SlotMoves arms i s (reviseIssued p i tag r t) := by
  unfold reviseIssued
  split
  · exact h
  · split
    · split
      · exact h
      · split
        · exact h
        · exact amendIssued_moves p h
    · exact h

/-- A revision from a feeder in the slot of its transponder. -/
theorem reviseInSlot_moves {tag : Tag} {r : FeederRevision} (h : SlotMoves True i s t) : SlotMoves True i s
    (reviseIssued p i tag r (reviseSettle i tag r (reviseSpent i tag r (reviseRecord p i tag r t)))) :=
  reviseIssued_moves p (reviseSettle_moves (reviseSpent_moves (reviseRecord_moves p h)))

/-! ## Corrections -/

theorem retimeLap_moves {n : Nat} {u : Time} {e : LogEntry} (h : SlotMoves arms i s t) :
    SlotMoves arms i s (retimeLap i n u e t) := by
  unfold retimeLap
  dsimp only
  split
  · exact offerRecord_moves (updateLog_moves (setSlot_moves h (slotKept_of_eq rfl rfl rfl rfl rfl))
      (entryKept_of_fields fun _ => rfl))
  · exact h

theorem retimeIssued_moves {n : Nat} {former u : Time} (h : SlotMoves arms i s t) :
    SlotMoves arms i s (retimeIssued p i n former u t) := by
  unfold retimeIssued
  split
  · exact h
  · split
    · exact h
    · split
      · dsimp only
        split <;> exact amendSector_moves h
      · exact h

theorem retimePending_moves {n : Nat} {u : Time} (h : SlotMoves arms i s t) : SlotMoves arms i s (retimePending i n u t) :=
  h.tail (.pendingChanged fun e => by split <;> rfl)

theorem retimeSettle_moves {n : Nat} {u : Time} (h : SlotMoves arms i s t) : SlotMoves arms i s (retimeSettle i n u t) :=
  h.tail (.settleChanged fun e => by split <;> rfl)

theorem retimeTrap_moves {n : Nat} {u : Time} (h : SlotMoves arms i s t) : SlotMoves arms i s (retimeTrap i n u t) :=
  h.tail (.trapChanged fun e => by split <;> rfl)

theorem retimeEntry_kept (u : Time) : EntryKept (retimeEntry u) := entryKept_of_fields fun _ => rfl

theorem retimePassing_moves {n : Nat} {u : Time} {e : LogEntry} (h : SlotMoves arms i s t) :
    SlotMoves arms i s (retimePassing p i n u e t) := by
  have ha : SlotMoves arms i s (offerRecord (amendPassingRec t e (.retimed u))
      (offerRevision n e.transponder (.retime u) (updateLog n (retimeEntry u) t))) :=
    offerRecord_moves (offerRevision_moves (updateLog_moves h (retimeEntry_kept u)))
  unfold retimePassing
  dsimp only
  generalize offerRecord (amendPassingRec t e (.retimed u))
    (offerRevision n e.transponder (.retime u) (updateLog n (retimeEntry u) t)) = a at ha ⊢
  exact retimeTrap_moves (retimeIssued_moves p (retimeSettle_moves (retimePending_moves (retimeLap_moves
    (setSlot_moves ha (slotKept_of_eq rfl rfl rfl rfl rfl))))))

end Sys2Proof.Machine
end

section
/-! PROOFS. What the operations of the line controller keep: the order of the classes, one notice in transmission in SENDING alone, the
agreement of queue and line state, and the places of the queues (5.3, R76 to R80, R89). -/

namespace Sys2Proof.Machine

/-! ## The order of the queue, and its capacities -/

/-- The transmit queue stands in the order of its classes. -/
abbrev Ordered (q : List Notice) : Prop := q.Pairwise (fun a b => classRank a.cls ≤ classRank b.cls)

/-- How many notices are in transmission. -/
def sentCount (q : List Notice) : Nat := q.countP (·.inTransmission)

/-- The capacities of the line block (R76 to R80, R89). -/
structure LineWithin (b : LineBlock) : Prop where
  transmitQueue : b.queue.length ≤ Config.transmitPlaces
  timedNotices : b.queue.countP isTimed ≤ Config.timedPlaces
  collisions : ∀ n ∈ b.queue, n.collisions < Config.lastCollision
  intake : b.intake.length ≤ Config.intakePlaces

/-- The line stays sound and within its capacities. -/
structure LineKept (s t : State) : Prop where
  sound : LineSound s → LineSound t
  within : LineWithin s.line → LineWithin t.line

theorem LineKept.refl (s : State) : LineKept s s := ⟨id, id⟩

theorem LineKept.trans {s t u : State} (h : LineKept s t) (k : LineKept t u) : LineKept s u :=
  ⟨fun x => k.sound (h.sound x), fun x => k.within (h.within x)⟩

/-- The line stays as it is where its queue, its state and its intake do. -/
theorem lineKept_of_eq {s t : State} (hq : t.line.queue = s.line.queue) (hs : t.line.state = s.line.state)
    (hi : t.line.intake = s.line.intake) : LineKept s t :=
  ⟨fun h => ⟨hq ▸ h.ordered, fun e => hq ▸ h.listening (hs ▸ e), fun e => hq ▸ h.deferring (hs ▸ e), hq ▸ hs ▸ h.sending⟩,
    fun h => ⟨hq ▸ h.transmitQueue, hq ▸ h.timedNotices, hq ▸ h.collisions, hi ▸ h.intake⟩⟩

theorem lineKept_of_line {s t : State} (h : t.line = s.line) : LineKept s t := lineKept_of_eq (by rw [h]) (by rw [h]) (by rw [h])

/-- The capacities of a queue whose notices all come from one within them. -/
theorem LineWithin.of_sublist {b c : LineBlock} (h : LineWithin b) (hq : c.queue.Sublist b.queue) (hi : c.intake = b.intake) :
    LineWithin c :=
  ⟨hq.length_le.trans h.transmitQueue, (hq.countP_le).trans h.timedNotices, fun n hn => h.collisions n (hq.subset hn),
    hi ▸ h.intake⟩

/-! ## Settling and resuming -/

theorem settleLine_intake (s : State) : (settleLine s).line.intake = s.line.intake := by
  obtain ⟨-, -, h⟩ | ⟨-, -, h⟩ | ⟨-, -, h⟩ := settleLine_cases s <;> rw [h] <;> rfl

theorem resumeLine_intake (s : State) : (resumeLine s).line.intake = s.line.intake := by
  obtain ⟨-, h⟩ | ⟨-, h⟩ := resumeLine_cases s <;> rw [h] <;> rfl

theorem settleLine_sending (s : State) : (settleLine s).line.state = .sending ↔ s.line.state = .sending := by
  obtain ⟨hs, -, h⟩ | ⟨hs, -, h⟩ | ⟨-, -, h⟩ := settleLine_cases s <;> rw [h]
  · simp [hs]
  · simp [hs]

/-- A queue in order whose notice in transmission agrees with SENDING settles in a sound line. -/
theorem settleLine_sound {s : State} (ho : Ordered s.line.queue)
    (hc : sentCount s.line.queue = if s.line.state = .sending then 1 else 0) : LineSound (settleLine s) := by
  have hq := (settleLine_frame s).2
  obtain ⟨hs, hne, h⟩ | ⟨hs, hne, h⟩ | ⟨hl, hd, h⟩ := settleLine_cases s
  · have hz : sentCount s.line.queue = 0 := by rw [hc, hs]; rfl
    rw [h]
    exact ⟨ho, nofun, fun _ => hne, hz⟩
  · have hz : sentCount s.line.queue = 0 := by rw [hc, hs]; rfl
    rw [h]
    exact ⟨ho, fun _ => hne, nofun, hz⟩
  · rw [h]
    exact ⟨ho, hl, hd, hc⟩

/-- With nothing in transmission, a queue in order resumes in a sound line. -/
theorem resumeLine_sound {s : State} (ho : Ordered s.line.queue) (hc : sentCount s.line.queue = 0) : LineSound (resumeLine s) := by
  obtain ⟨hq, h⟩ | ⟨hq, h⟩ := resumeLine_cases s <;> rw [h]
  · exact ⟨ho, fun _ => hq, nofun, hc⟩
  · exact ⟨ho, nofun, fun _ => hq, hc⟩

theorem settleLine_within {s : State} (h : LineWithin s.line) : LineWithin (settleLine s).line :=
  h.of_sublist (by rw [(settleLine_frame s).2]) (settleLine_intake s)

theorem resumeLine_within {s : State} (h : LineWithin s.line) : LineWithin (resumeLine s).line :=
  h.of_sublist (by rw [(resumeLine_frame s).2]) (resumeLine_intake s)

/-! ## A notice that enters -/

theorem sentCount_enqueue_fresh (b : NoticeBody) (c : NoticeClass) (now : Time) (q : List Notice) :
    sentCount (enqueue (freshNotice b c now) q) = sentCount q := countP_enqueue _ _ _

/-- A notice that enters a queue with room, and with room in the reserve where it is a TIME or STATUS notice. -/
theorem enqueue_fresh_within {l : LineBlock} (b : NoticeBody) (c : NoticeClass) (now : Time) (h : LineWithin l)
    (hr : l.queue.length < Config.transmitPlaces)
    (ht : isTimed (freshNotice b c now) = true → l.queue.countP isTimed < Config.timedPlaces) :
    LineWithin { l with queue := enqueue (freshNotice b c now) l.queue } := by
  refine ⟨?length, ?timed, ?collisions, h.intake⟩
  case length => rw [length_enqueue]; exact hr
  case timed =>
    rw [countP_enqueue]
    split
    · exact ht ‹_›
    · exact h.timedNotices
  case collisions =>
    intro n hn
    rcases (mem_enqueue _ _ _).mp hn with rfl | hn
    · exact Nat.zero_lt_succ _
    · exact h.collisions n hn

/-- A notice that enters the settled queue of a sound line. -/
theorem settle_enqueue_kept {s : State} {b : NoticeBody} {c : NoticeClass} {now : Time}
    (hr : s.line.queue.length < Config.transmitPlaces)
    (ht : isTimed (freshNotice b c now) = true → s.line.queue.countP isTimed < Config.timedPlaces) :
    LineKept s (settleLine (setQueue (enqueue (freshNotice b c now) s.line.queue) s)) where
  sound h := settleLine_sound (enqueue_ordered _ _ h.ordered) ((sentCount_enqueue_fresh b c now _).trans h.sending)
  within h := settleLine_within (enqueue_fresh_within b c now h hr ht)

theorem offerTime_kept (s : State) : LineKept s (offerTime s) := by
  unfold offerTime
  split
  · rename_i hr
    obtain ⟨hl, ht⟩ := (timedRoom_iff _).mp hr
    let u : State := { s with clock := { s.clock with timeDue := none } }
    have hu : LineKept s u := lineKept_of_line rfl
    exact hu.trans (settle_enqueue_kept (s := u) hl fun _ => ht)
  · exact lineKept_of_line rfl

theorem offerHigh_kept {n : Nat} {b : NoticeBody} {o : Owed} {s : State} (hb : isTimed (freshNotice b .high s.now) = false) :
    LineKept s (offerHigh n b o s) := by
  obtain ⟨hl, h⟩ | ⟨-, h⟩ := offerHigh_cases n b o s <;> rw [h]
  · exact settle_enqueue_kept hl fun ht => absurd (hb.symm.trans ht) Bool.false_ne_true
  · exact lineKept_of_line rfl

/-! ## A queue whose notices change in their places -/

/-- Two queues that differ in nothing that the order, the reserve and the places judge. -/
structure SamePlaces (q r : List Notice) : Prop where
  classes : r.map (·.cls) = q.map (·.cls)
  sent : r.map (·.inTransmission) = q.map (·.inTransmission)
  timed : r.map isTimed = q.map isTimed
  collisions : r.map (·.collisions) = q.map (·.collisions)

theorem ordered_iff (q : List Notice) : Ordered q ↔ (q.map (·.cls)).Pairwise (fun a b => classRank a ≤ classRank b) :=
  (List.pairwise_map (f := fun n : Notice => n.cls) (R := fun a b => classRank a ≤ classRank b)).symm

theorem SamePlaces.refl (q : List Notice) : SamePlaces q q := ⟨rfl, rfl, rfl, rfl⟩

theorem SamePlaces.cons {q r : List Notice} (h : SamePlaces q r) {m n : Notice} (hc : n.cls = m.cls)
    (hs : n.inTransmission = m.inTransmission) (ht : isTimed n = isTimed m) (hk : n.collisions = m.collisions) :
    SamePlaces (m :: q) (n :: r) :=
  ⟨by simp [h.classes, hc], by simp [h.sent, hs], by simp [h.timed, ht], by simp [h.collisions, hk]⟩

/-- A count by a test is a count of the answers. -/
theorem countP_eq_map (f : Notice → Bool) (q : List Notice) : q.countP f = (q.map f).countP id := by
  rw [List.countP_map]
  rfl

theorem SamePlaces.length_eq {q r : List Notice} (h : SamePlaces q r) : r.length = q.length := by
  simpa using congrArg List.length h.classes

/-- The line with a queue in the same places. -/
theorem setQueue_same_kept {s : State} {q : List Notice} (h : SamePlaces s.line.queue q) : LineKept s (setQueue q s) := by
  have hnil : q = [] ↔ s.line.queue = [] := by rw [← List.length_eq_zero_iff, ← List.length_eq_zero_iff, h.length_eq]
  refine ⟨fun k => ⟨?ordered, fun e => hnil.mpr (k.listening e), fun e => hnil.not.mpr (k.deferring e), ?sending⟩,
    fun k => ⟨?length, ?timed, ?collisions, k.intake⟩⟩
  case ordered =>
    refine (ordered_iff q).mpr ?_
    rw [h.classes]
    exact (ordered_iff _).mp k.ordered
  case sending =>
    have hc := countP_eq_map (·.inTransmission) q
    rw [h.sent, ← countP_eq_map] at hc
    exact hc.trans k.sending
  case length => exact h.length_eq ▸ k.transmitQueue
  case timed =>
    have hc := countP_eq_map isTimed q
    rw [h.timed, ← countP_eq_map] at hc
    exact hc.trans_le k.timedNotices
  case collisions =>
    intro n hn
    have : n.collisions ∈ s.line.queue.map (·.collisions) := h.collisions ▸ List.mem_map_of_mem hn
    obtain ⟨m, hm, he⟩ := List.mem_map.mp this
    exact he ▸ k.collisions m hm

theorem isTimed_of_isWaitingStatus {n : Notice} (h : isWaitingStatus n = true) : isTimed n = true := by
  unfold isWaitingStatus at h
  unfold isTimed
  split at h
  · simp [*]
  · cases h

theorem replaceStatus_same (f : StatusFields) (q : List Notice) : SamePlaces q (replaceStatus f q) := by
  induction q with
  | nil => exact .refl _
  | cons n q ih =>
    unfold replaceStatus
    split
    · rename_i h
      exact (SamePlaces.refl q).cons rfl rfl (isTimed_of_isWaitingStatus h).symm rfl
    · exact ih.cons rfl rfl rfl rfl

theorem offerStatus_kept (p : Params) (s : State) : LineKept s (offerStatus p s) := by
  unfold offerStatus
  split
  · exact setQueue_same_kept (replaceStatus_same _ _)
  · split
    · rename_i hr
      obtain ⟨hl, ht⟩ := (timedRoom_iff _).mp hr
      exact settle_enqueue_kept hl fun _ => ht
    · exact .refl s

/-! ## Pulls and revisions -/

/-- A pull of an UNSENT entry: nothing, or its owed notice enters the High class. -/
theorem pullUnsent_cases (s : State) : pullUnsent s = s ∨
    ∃ b e, isTimed (freshNotice b .high s.now) = false ∧ s.line.queue.any isPassingOrRevise = false ∧
      pullUnsent s = settleLine (setQueue (enqueue (freshNotice b .high s.now) s.line.queue) (updateLog e clearUnsent s)) := by
  unfold pullUnsent
  split
  · exact .inl rfl
  · rename_i ha
    split
    · exact .inl rfl
    · rename_i e o _
      exact .inr ⟨pulledBody e o, e.number, by cases o <;> rfl, Bool.eq_false_iff.mpr ha, rfl⟩

/-- A pull neither begins nor ends an attempt. -/
theorem pullUnsent_sending (s : State) : (pullUnsent s).line.state = .sending ↔ s.line.state = .sending := by
  obtain hp | ⟨b, e, -, -, hp⟩ := pullUnsent_cases s <;> rw [hp]
  exact settleLine_sending _

/-- A pull leaves the order and what is in transmission. -/
theorem pullUnsent_ordered {s : State} (h : Ordered s.line.queue) : Ordered (pullUnsent s).line.queue := by
  obtain hp | ⟨b, e, -, -, hp⟩ := pullUnsent_cases s <;> rw [hp]
  · exact h
  · rw [(settleLine_frame _).2]
    exact enqueue_ordered _ _ h

theorem pullUnsent_sentCount (s : State) : sentCount (pullUnsent s).line.queue = sentCount s.line.queue := by
  obtain hp | ⟨b, e, -, -, hp⟩ := pullUnsent_cases s <;> rw [hp]
  rw [(settleLine_frame _).2]
  exact sentCount_enqueue_fresh b .high s.now _

/-- A pull finds TIME and STATUS notices alone, of which there are 8 or fewer. -/
theorem pullUnsent_within {s : State} (h : LineWithin s.line) : LineWithin (pullUnsent s).line := by
  obtain hp | ⟨b, e, hb, hn, hp⟩ := pullUnsent_cases s <;> rw [hp]
  · exact h
  · have hall : s.line.queue.countP isTimed = s.line.queue.length := by
      refine List.countP_eq_length.mpr fun n hmem => ?_
      simpa [isPassingOrRevise] using List.any_eq_false.mp hn n hmem
    refine settleLine_within (enqueue_fresh_within b .high s.now h ?_ fun ht => absurd (hb.symm.trans ht) Bool.false_ne_true)
    show s.line.queue.length < Config.transmitPlaces
    exact hall ▸ h.timedNotices.trans_lt (by decide)

theorem pullUnsent_kept (s : State) : LineKept s (pullUnsent s) := by
  refine ⟨fun h => ?_, pullUnsent_within⟩
  obtain hp | ⟨b, e, -, -, hp⟩ := pullUnsent_cases s <;> rw [hp]
  · exact h
  · exact settleLine_sound (enqueue_ordered _ _ h.ordered) ((sentCount_enqueue_fresh b .high s.now _).trans h.sending)

theorem reviseNotice_some {r : Revision} {n m : Notice} (h : reviseNotice r n = some m) :
    m.cls = n.cls ∧ m.inTransmission = n.inTransmission ∧ isTimed m = isTimed n ∧ m.collisions = n.collisions := by
  unfold reviseNotice at h
  unfold isTimed
  cases hb : n.body with
  | passing k t i fl =>
    cases r with
    | retime u => simp only [hb, Option.some.injEq] at h; subst h; exact ⟨rfl, rfl, rfl, rfl⟩
    | withdraw => simp [hb] at h
  | revise k t a => simp only [hb, Option.some.injEq] at h; subst h; exact ⟨rfl, rfl, rfl, rfl⟩
  | time => simp only [hb, Option.some.injEq] at h; subst h; simp [hb]
  | status f => simp only [hb, Option.some.injEq] at h; subst h; simp [hb]

/-- A revision that removes no notice leaves every place; one that does removes a notice that waits. -/
theorem reviseQueue_cases (x : Nat) (r : Revision) (q : List Notice) :
    ((reviseQueue x r q).2 = false ∧ SamePlaces q (reviseQueue x r q).1) ∨
    ((reviseQueue x r q).2 = true ∧ (reviseQueue x r q).1.Sublist q ∧ sentCount (reviseQueue x r q).1 = sentCount q) := by
  induction q with
  | nil => exact .inl ⟨rfl, .refl _⟩
  | cons n q ih =>
    unfold reviseQueue
    split
    · split
      · exact .inl ⟨rfl, (SamePlaces.refl q).cons rfl rfl rfl rfl⟩
      · rename_i hs
        split
        · rename_i m hm
          obtain ⟨hc, ht, hi, hk⟩ := reviseNotice_some hm
          exact .inl ⟨rfl, (SamePlaces.refl q).cons hc ht hi hk⟩
        · refine .inr ⟨rfl, List.sublist_cons_self n q, ?_⟩
          simp [sentCount, hs]
    · dsimp only
      obtain ⟨h2, h1⟩ | ⟨h2, h1, h3⟩ := ih
      · exact .inl ⟨h2, h1.cons rfl rfl rfl rfl⟩
      · refine .inr ⟨h2, h1.cons_cons n, ?_⟩
        unfold sentCount at h3 ⊢
        rw [List.countP_cons, List.countP_cons, h3]

theorem offerRevision_kept (x transponder : Nat) (r : Revision) (s : State) : LineKept s (offerRevision x transponder r s) := by
  unfold offerRevision
  split
  · unfold reviseUnsent
    split <;> exact lineKept_of_line rfl
  · split
    · dsimp only
      obtain ⟨h2, h1⟩ | ⟨h2, h1, h3⟩ := reviseQueue_cases x r s.line.queue
      · simp only [h2, Bool.false_eq_true, if_false]
        exact setQueue_same_kept h1
      · simp only [h2, if_true]
        refine ⟨fun h => settleLine_sound (pullUnsent_ordered (h.ordered.sublist h1)) ?_, fun h =>
          settleLine_within (pullUnsent_within (h.of_sublist h1 rfl))⟩
        rw [pullUnsent_sentCount, setQueue_line_queue, h3]
        simp only [pullUnsent_sending, setQueue_line_state]
        exact h.sending
    · exact offerHigh_kept rfl

end Sys2Proof.Machine
end

section
/-! PROOFS. What an attempt, its end, a collision, a jam, a promotion and the carrier keep of the line (R74 to R78, R81, R83, R90). -/

namespace Sys2Proof.Machine

/-! ## The notice in transmission -/

/-- The notice in transmission among the others. -/
theorem sentNotice_split {s : State} {n : Notice} (h : sentNotice s = some n) :
    ∃ before after, s.line.queue = before ++ n :: after ∧ n.inTransmission = true ∧ ∀ m ∈ before, m.inTransmission = false := by
  obtain ⟨hn, before, after, hq, hb⟩ := List.find?_eq_some_iff_append.mp h
  exact ⟨before, after, hq, by simpa using hn, fun m hm => by simpa using hb m hm⟩

theorem withoutSent_split {before after : List Notice} {n : Notice} (hn : n.inTransmission = true)
    (hb : ∀ m ∈ before, m.inTransmission = false) : withoutSent (before ++ n :: after) = before ++ after := by
  unfold withoutSent
  rw [List.eraseP_append_right (p := (·.inTransmission)) (l₁ := before) _ fun m hm => by simp [hb m hm]]
  simp [hn]

theorem putSent_split {before after : List Notice} {n m : Notice} (hn : n.inTransmission = true)
    (hb : ∀ m ∈ before, m.inTransmission = false) :
    putSent m (before ++ n :: after) = before ++ { m with inTransmission := false } :: after := by
  induction before with
  | nil => simp [putSent, hn]
  | cons k before ih =>
    have hk := hb k (.head _)
    simp [putSent, hk, ih fun m hm => hb m (.tail _ hm)]

theorem sentCount_append (a b : List Notice) : sentCount (a ++ b) = sentCount a + sentCount b := List.countP_append

theorem sentCount_cons (n : Notice) (q : List Notice) : sentCount (n :: q) = sentCount q + if n.inTransmission then 1 else 0 :=
  List.countP_cons

/-- In SENDING the queue holds its one notice in transmission; the others wait. -/
theorem others_wait {before after : List Notice} {n : Notice} (hn : n.inTransmission = true)
    (h : sentCount (before ++ n :: after) ≤ 1) : sentCount (before ++ after) = 0 := by
  rw [sentCount_append, sentCount_cons, if_pos hn] at h
  rw [sentCount_append]
  omega

theorem sentCount_le_one {s : State} (h : LineSound s) : sentCount s.line.queue ≤ 1 := by
  rw [sentCount, h.sending]
  split <;> omega

/-- A notice put in the place of another of its class. -/
theorem ordered_replace {before after : List Notice} {n m : Notice} (hc : m.cls = n.cls) (h : Ordered (before ++ n :: after)) :
    Ordered (before ++ m :: after) := by
  rw [ordered_iff] at h ⊢
  simpa [hc] using h

/-! ## The parts of the line that a queue without its notice in transmission resumes -/

theorem withoutSent_sublist (q : List Notice) : (withoutSent q).Sublist q := List.eraseP_sublist

theorem withoutSent_sentCount {s : State} {n : Notice} (hs : sentNotice s = some n) (h : LineSound s) :
    sentCount (withoutSent s.line.queue) = 0 := by
  obtain ⟨before, after, hq, hn, hb⟩ := sentNotice_split hs
  rw [hq, withoutSent_split hn hb]
  exact others_wait hn (hq ▸ sentCount_le_one h)

/-- What stands to be resumed: a queue in order with nothing in transmission. -/
structure AtRest (s : State) : Prop where
  ordered : Ordered s.line.queue
  waiting : sentCount s.line.queue = 0

theorem AtRest.resume {s : State} (h : AtRest s) : LineSound (resumeLine s) := resumeLine_sound h.ordered h.waiting

theorem AtRest.pull {s : State} (h : AtRest s) : AtRest (pullUnsent s) :=
  ⟨pullUnsent_ordered h.ordered, (pullUnsent_sentCount s).trans h.waiting⟩

theorem AtRest.backoff {s : State} (h : AtRest s) (n draw : Nat) : LineSound (enterBackoff n draw s) := by
  unfold enterBackoff
  split
  · exact h.resume
  · exact ⟨h.ordered, nofun, nofun, h.waiting⟩

theorem AtRest.congested {s : State} (h : AtRest s) : LineSound (enterCongested s) := ⟨h.ordered, nofun, nofun, h.waiting⟩

theorem enterBackoff_within {s : State} (n draw : Nat) (h : LineWithin s.line) : LineWithin (enterBackoff n draw s).line := by
  unfold enterBackoff
  split
  · exact resumeLine_within h
  · exact ⟨h.transmitQueue, h.timedNotices, h.collisions, h.intake⟩

theorem atRest_withoutSent {s : State} {n : Notice} (hs : sentNotice s = some n) (h : LineSound s) :
    AtRest (setQueue (withoutSent s.line.queue) (endAttempt s)) :=
  ⟨h.ordered.sublist (withoutSent_sublist _), withoutSent_sentCount hs h⟩

theorem within_withoutSent {s : State} (h : LineWithin s.line) : LineWithin (setQueue (withoutSent s.line.queue) (endAttempt s)).line :=
  h.of_sublist (withoutSent_sublist _) rfl

/-! ## The end of an attempt -/

theorem followOnBody_untimed {b : NoticeBody} {r : Revision} {c : NoticeClass} {now : Time}
    (h : isTimed (freshNotice b c now) = false) : isTimed (freshNotice (followOnBody b r) c now) = false := by
  cases b <;> first | rfl | exact h

/-- What the departure of a notice may bring, by its kind. -/
theorem afterDeparture_cases (n : Notice) (s : State) :
    (n.body = .time ∧ afterDeparture n s = startTimeTimer s) ∨
    ((∃ f, n.body = .status f) ∧ afterDeparture n s = s) ∨
    (isTimed n = false ∧ n.leftOver = true ∧ afterDeparture n s = s) ∨
    (∃ r, isTimed n = false ∧ n.leftOver = false ∧ n.followOn = some r ∧ afterDeparture n s =
      setQueue (enqueue (freshNotice (followOnBody n.body r) .high s.now) s.line.queue) s) ∨
    (isTimed n = false ∧ n.leftOver = false ∧ n.followOn = none ∧ afterDeparture n s = pullUnsent s) := by
  unfold afterDeparture isTimed
  cases n.body with
  | time => exact .inl ⟨rfl, rfl⟩
  | status f => exact .inr (.inl ⟨⟨f, rfl⟩, rfl⟩)
  | passing | revise =>
    cases n.leftOver with
    | true => exact .inr (.inr (.inl ⟨rfl, rfl, rfl⟩))
    | false =>
      cases hf : n.followOn with
      | some r => exact .inr (.inr (.inr (.inl ⟨r, rfl, rfl, rfl, rfl⟩)))
      | none => exact .inr (.inr (.inr (.inr ⟨rfl, rfl, rfl, rfl⟩)))

theorem AtRest.departure {s : State} (h : AtRest s) (n : Notice) : AtRest (afterDeparture n s) := by
  obtain ⟨-, hd⟩ | ⟨-, hd⟩ | ⟨-, -, hd⟩ | ⟨r, -, -, -, hd⟩ | ⟨-, -, -, hd⟩ := afterDeparture_cases n s <;> rw [hd]
  · exact ⟨h.ordered, h.waiting⟩
  · exact h
  · exact h
  · exact ⟨enqueue_ordered _ _ h.ordered, (sentCount_enqueue_fresh _ _ _ _).trans h.waiting⟩
  · exact h.pull

theorem afterDeparture_within {s : State} {n : Notice} (hl : s.line.queue.length < Config.transmitPlaces) (h : LineWithin s.line) :
    LineWithin (afterDeparture n s).line := by
  obtain ⟨-, hd⟩ | ⟨-, hd⟩ | ⟨-, -, hd⟩ | ⟨r, ht, -, -, hd⟩ | ⟨-, -, -, hd⟩ := afterDeparture_cases n s <;> rw [hd]
  · exact h
  · exact h
  · exact h
  · refine enqueue_fresh_within _ .high s.now h hl fun hc => absurd (Eq.symm hc) ?_
    have hb : isTimed (freshNotice n.body .high s.now) = false := ht
    exact (followOnBody_untimed (r := r) hb) ▸ Bool.noConfusion
  · exact pullUnsent_within h

theorem length_withoutSent {s : State} {n : Notice} (hs : sentNotice s = some n) (h : LineWithin s.line) :
    (withoutSent s.line.queue).length < Config.transmitPlaces := by
  obtain ⟨before, after, hq, hn, hb⟩ := sentNotice_split hs
  have := h.transmitQueue
  rw [hq] at this ⊢
  rw [withoutSent_split hn hb]
  simp only [List.length_append, List.length_cons] at *
  omega

theorem completeAttempt_kept {s : State} {n : Notice} (hs : sentNotice s = some n) : LineKept s (completeAttempt n s) where
  sound h := ((atRest_withoutSent hs h).departure n).resume
  within h := resumeLine_within (afterDeparture_within (length_withoutSent hs h) (within_withoutSent h))

/-! ## Collisions -/

/-- The collided notice waits in its place. -/
theorem atRest_putSent {s : State} {n m : Notice} (hs : sentNotice s = some n) (hm : m.cls = n.cls) (h : LineSound s) :
    AtRest (setQueue (putSent m s.line.queue) (endAttempt s)) := by
  obtain ⟨before, after, hq, hn, hb⟩ := sentNotice_split hs
  have ho := h.ordered
  have hc := sentCount_le_one h
  rw [hq] at ho hc
  refine ⟨?_, ?_⟩ <;> rw [setQueue_line_queue, hq, putSent_split hn hb]
  · exact ordered_replace hm ho
  · have := others_wait hn hc
    rw [sentCount_append] at this ⊢
    rw [sentCount_cons]
    simpa using this

theorem within_putSent {s : State} {n m : Notice} (hs : sentNotice s = some n) (hm : isTimed m = isTimed n)
    (hk : m.collisions < Config.lastCollision) (h : LineWithin s.line) :
    LineWithin (setQueue (putSent m s.line.queue) (endAttempt s)).line := by
  obtain ⟨before, after, hq, hn, hb⟩ := sentNotice_split hs
  have hl := h.transmitQueue
  have ht := h.timedNotices
  have hc := h.collisions
  rw [hq] at hl ht hc
  have hm' : isTimed { m with inTransmission := false } = isTimed n := hm
  refine ⟨?_, ?_, ?_, h.intake⟩ <;> rw [setQueue_line_queue, hq, putSent_split hn hb]
  · simpa using hl
  · rw [List.countP_append, List.countP_cons, hm', ← List.countP_cons, ← List.countP_append]
    exact ht
  · intro k hk'
    rcases List.mem_append.mp hk' with hk' | hk'
    · exact hc k (List.mem_append_left _ hk')
    · rcases List.mem_cons.mp hk' with rfl | hk'
      · exact hk
      · exact hc k (List.mem_append_right _ (.tail _ hk'))

/-- The collided notice keeps its place, whether the line backs off or pauses. -/
theorem keepCollided_kept {s : State} {n m : Notice} (draw : Nat) (hs : sentNotice s = some n) (hc : m.cls = n.cls)
    (ht : isTimed m = isTimed n) : LineKept s (keepCollided m draw (endAttempt s)) := by
  unfold keepCollided
  split
  · rename_i hk
    exact ⟨fun h => (atRest_putSent hs hc h).backoff _ _, fun h =>
      enterBackoff_within _ _ (within_putSent (s := s) hs ht hk h)⟩
  · refine ⟨fun h => (atRest_putSent (m := { m with collisions := 0 }) hs hc h).congested, fun h => ?_⟩
    have := within_putSent (s := s) (m := { m with collisions := 0 }) hs ht (Nat.zero_lt_succ _) h
    exact ⟨this.transmitQueue, this.timedNotices, this.collisions, this.intake⟩

theorem applyFollowOn_some {n m : Notice} (h : applyFollowOn n = some m) : m.cls = n.cls ∧ isTimed m = isTimed n := by
  unfold applyFollowOn at h
  cases hf : n.followOn with
  | none => simp only [hf, Option.some.injEq] at h; subst h; exact ⟨rfl, rfl⟩
  | some r =>
    simp only [hf, Option.map_eq_some_iff] at h
    obtain ⟨k, hk, rfl⟩ := h
    obtain ⟨hc, -, ht, -⟩ := reviseNotice_some hk
    exact ⟨hc, ht⟩

theorem collideTimed_kept {s : State} {n m : Notice} (draw : Nat) (hs : sentNotice s = some n) (hc : m.cls = n.cls)
    (ht : isTimed m = isTimed n) : LineKept s (collideTimed m draw (endAttempt s)) := by
  unfold collideTimed
  split
  · exact keepCollided_kept draw hs hc ht
  · dsimp only
    split
    · exact ⟨fun h => AtRest.resume ⟨(atRest_withoutSent hs h).ordered, (atRest_withoutSent hs h).waiting⟩, fun h =>
        resumeLine_within (s := startTimeTimer _) (within_withoutSent (s := s) h)⟩
    · exact ⟨fun h => (atRest_withoutSent hs h).resume, fun h => resumeLine_within (within_withoutSent (s := s) h)⟩

theorem collideHigh_kept {s : State} {n m : Notice} (draw : Nat) (hs : sentNotice s = some n) (hc : m.cls = n.cls)
    (ht : isTimed m = isTimed n) : LineKept s (collideHigh m draw (endAttempt s)) := by
  unfold collideHigh
  split
  · exact ⟨fun h => (atRest_withoutSent hs h).backoff _ _, fun h => enterBackoff_within _ _ (within_withoutSent (s := s) h)⟩
  · split
    · rename_i k hk
      obtain ⟨hc', ht'⟩ := applyFollowOn_some hk
      exact keepCollided_kept draw hs (hc'.trans hc) (ht'.trans ht)
    · exact ⟨fun h => (atRest_withoutSent hs h).pull.backoff _ _, fun h =>
        enterBackoff_within _ _ (pullUnsent_within (within_withoutSent (s := s) h))⟩

theorem collide_kept {s : State} {n : Notice} (draw : Nat) (hs : sentNotice s = some n) : LineKept s (collide n draw s) := by
  unfold collide
  dsimp only
  split
  · exact collideTimed_kept draw hs rfl rfl
  · exact collideHigh_kept draw hs rfl rfl

/-! ## Attempts, jams, carrier, waits -/

theorem beginAttempt_kept {p : Params} {n : Notice} {q : List Notice} {s : State} (hd : s.line.state = .deferring)
    (hq : s.line.queue = n :: q) : LineKept s (beginAttempt p n q s) where
  sound h := by
    have ho := h.ordered
    have hc := h.sending
    rw [hq, hd] at hc
    rw [hq] at ho
    obtain ⟨hall, hlast⟩ := List.pairwise_cons.mp ho
    refine ⟨List.pairwise_cons.mpr ⟨hall, hlast⟩, nofun, nofun, ?_⟩
    have hz : q.countP (·.inTransmission) = 0 := by
      have : q.countP (·.inTransmission) ≤ (n :: q).countP (·.inTransmission) := (List.sublist_cons_self n q).countP_le
      rw [hc] at this
      exact Nat.le_zero.mp this
    show ({ n with inTransmission := true } :: q).countP (·.inTransmission) = 1
    rw [List.countP_cons, hz]
    rfl
  within h := by
    have hl := h.transmitQueue
    have ht := h.timedNotices
    have hc := h.collisions
    rw [hq] at hl ht hc
    exact ⟨hl, ht, fun m hm => by
      rcases List.mem_cons.mp hm with rfl | hm
      · exact hc n (.head _)
      · exact hc m (.tail _ hm), h.intake⟩

theorem map_notSending_sentCount (q : List Notice) : sentCount (q.map notSending) = 0 := by
  simp [sentCount, notSending]

theorem cutAttempt_line (s : State) : (cutAttempt s).line.queue = s.line.queue ∧ (cutAttempt s).line.intake = s.line.intake := by
  unfold cutAttempt
  split <;> exact ⟨rfl, rfl⟩

theorem jamLine_kept (s : State) : LineKept s (jamLine s) := by
  obtain ⟨hq, hi⟩ := cutAttempt_line s
  have hline : (jamLine s).line.queue = s.line.queue.map notSending := congrArg (List.map notSending) hq
  refine ⟨fun h => ⟨?_, nofun, nofun, ?_⟩, fun h => ⟨?_, ?_, ?_, ?_⟩⟩
  · rw [hline]
    refine (ordered_iff _).mpr ?_
    rw [List.map_map]
    exact (ordered_iff _).mp h.ordered
  · rw [hline]
    exact map_notSending_sentCount _
  · rw [hline, List.length_map]
    exact h.transmitQueue
  · rw [hline, List.countP_map]
    exact h.timedNotices
  · intro n hn
    rw [hline] at hn
    obtain ⟨m, hm, rfl⟩ := List.mem_map.mp hn
    exact h.collisions m hm
  · exact (show (jamLine s).line.intake = s.line.intake from hi) ▸ h.intake

theorem dropCarrier_kept (s : State) : LineKept s (dropCarrier s) := by
  unfold dropCarrier
  dsimp only
  split
  · rename_i hj
    refine ⟨fun h => AtRest.resume ⟨h.ordered, ?_⟩, fun h => resumeLine_within ?_⟩
    · exact h.sending.trans (by rw [hj]; rfl)
    · exact ⟨h.transmitQueue, h.timedNotices, h.collisions, h.intake⟩
  · exact lineKept_of_eq rfl rfl rfl
  · exact lineKept_of_eq rfl rfl rfl

/-- The end of a wait, in which nothing is in transmission. -/
theorem resumeLine_kept {s : State} (hs : s.line.state ≠ .sending) : LineKept s (resumeLine s) where
  sound h := AtRest.resume ⟨h.ordered, h.sending.trans (if_neg hs)⟩
  within h := resumeLine_within h

/-! ## Promotion -/

/-- What stands before a promoted notice, and what behind it, keep the order with it in the Middle class. -/
theorem enqueueByEntry_ordered {n : Notice} {q : List Notice} (hn : n.cls = .middle) (h : Ordered q) :
    Ordered (enqueueByEntry n q) := by
  induction q with
  | nil => simp [enqueueByEntry]
  | cons m q ih =>
    obtain ⟨hm, hq⟩ := List.pairwise_cons.mp h
    by_cases hb : beforePromoted n.entryTime m = true
    · have he : enqueueByEntry n (m :: q) = m :: enqueueByEntry n q := by simp [enqueueByEntry, hb]
      rw [he, Ordered, List.pairwise_cons]
      refine ⟨fun x hx => ?_, ih hq⟩
      rcases List.mem_cons.mp ((enqueueByEntry_perm n q).mem_iff.mp hx) with rfl | hx
      · rw [hn]
        unfold beforePromoted at hb
        cases hc : m.cls <;> simp_all [classRank]
      · exact hm x hx
    · have he : enqueueByEntry n (m :: q) = n :: m :: q := by simp [enqueueByEntry, hb]
      rw [he, Ordered, List.pairwise_cons]
      have h1 : 1 ≤ classRank m.cls := by
        unfold beforePromoted at hb
        cases hc : m.cls <;> simp_all [classRank]
      refine ⟨fun x hx => ?_, h⟩
      rw [hn]
      rcases List.mem_cons.mp hx with rfl | hx
      · exact h1
      · exact h1.trans (hm x hx)

/-- A promoted queue holds the same notices, one of them in another class. -/
theorem promote_perm {n : Notice} {q : List Notice} (hn : n ∈ q) :
    (enqueueByEntry { n with cls := .middle } (q.erase n)).Perm ({ n with cls := .middle } :: q.erase n) ∧ q.Perm (n :: q.erase n) :=
  ⟨enqueueByEntry_perm _ _, List.perm_cons_erase hn⟩

theorem promote_kept {s : State} {n : Notice} (hn : n ∈ s.line.queue) :
    LineKept s (setQueue (enqueueByEntry { n with cls := .middle } (s.line.queue.erase n)) s) := by
  obtain ⟨hp, hq⟩ := promote_perm hn
  have hlen : (enqueueByEntry { n with cls := .middle } (s.line.queue.erase n)).length = s.line.queue.length := by
    rw [hp.length_eq, hq.length_eq]; rfl
  have hcount (f : Notice → Bool) (hf : f { n with cls := .middle } = f n) :
      (enqueueByEntry { n with cls := .middle } (s.line.queue.erase n)).countP f = s.line.queue.countP f := by
    rw [hp.countP_eq, hq.countP_eq, List.countP_cons, List.countP_cons, hf]
  have hne : s.line.queue ≠ [] := List.ne_nil_of_mem hn
  refine ⟨fun h => ⟨enqueueByEntry_ordered rfl (h.ordered.sublist List.erase_sublist), fun e => absurd (h.listening e) hne,
    fun _ => ?_, (hcount _ rfl).trans h.sending⟩, fun h => ⟨hlen.trans_le h.transmitQueue, (hcount _ rfl).trans_le h.timedNotices,
    fun m hm => ?_, h.intake⟩⟩
  · exact fun he => hne (List.length_eq_zero_iff.mp (hlen.symm.trans (congrArg List.length he)))
  · rcases List.mem_cons.mp (hp.mem_iff.mp hm) with rfl | hm
    · exact h.collisions n hn
    · exact h.collisions m (List.mem_of_mem_erase hm)

/-! ## The start of CLEARING, and the intake -/

theorem clearedNotice_some {n m : Notice} (h : clearedNotice n = some m) :
    m.cls = n.cls ∧ m.inTransmission = n.inTransmission ∧ isTimed m = isTimed n ∧ m.collisions = n.collisions := by
  unfold clearedNotice at h
  split at h
  · simp only [Option.some.injEq] at h; subst h; exact ⟨rfl, rfl, rfl, rfl⟩
  · split at h
    · simp only [Option.some.injEq] at h; subst h; exact ⟨rfl, rfl, rfl, rfl⟩
    · cases h

theorem clearedNotice_none {n : Notice} (h : clearedNotice n = none) : isTimed n = false ∧ n.inTransmission = false := by
  unfold clearedNotice at h
  split at h
  · cases h
  · split at h
    · cases h
    · simp_all

/-- CLEARING leaves the order, what is in transmission, the TIME and STATUS notices, and no new collision count. -/
theorem filterMap_clearedNotice (q : List Notice) :
    ((q.filterMap clearedNotice).map (·.cls)).Sublist (q.map (·.cls)) ∧
    sentCount (q.filterMap clearedNotice) = sentCount q ∧
    (q.filterMap clearedNotice).filter isTimed = q.filter isTimed ∧
    ∀ m ∈ q.filterMap clearedNotice, ∃ n ∈ q, m.collisions = n.collisions := by
  refine ⟨?_, ?_, ?_, ?_⟩
  · induction q with
    | nil => exact .slnil
    | cons n q ih =>
      cases hn : clearedNotice n with
      | none => rw [List.filterMap_cons_none hn]; exact ih.cons _
      | some m =>
        rw [List.filterMap_cons_some hn, List.map_cons, List.map_cons, (clearedNotice_some hn).1]
        exact ih.cons_cons _
  · induction q with
    | nil => rfl
    | cons n q ih =>
      cases hn : clearedNotice n with
      | none => rw [List.filterMap_cons_none hn, ih, sentCount_cons, (clearedNotice_none hn).2]; rfl
      | some m => rw [List.filterMap_cons_some hn, sentCount_cons, sentCount_cons, ih, (clearedNotice_some hn).2.1]
  · induction q with
    | nil => rfl
    | cons n q ih =>
      cases ht : isTimed n with
      | true =>
        have hn : clearedNotice n = some n := by simp [clearedNotice, ht]
        rw [List.filterMap_cons_some hn, List.filter_cons_of_pos ht, List.filter_cons_of_pos ht, ih]
      | false =>
        rw [List.filter_cons_of_neg (by simp [ht]), ← ih]
        cases hn : clearedNotice n with
        | none => rw [List.filterMap_cons_none hn]
        | some m =>
          rw [List.filterMap_cons_some hn, List.filter_cons_of_neg (by simp [(clearedNotice_some hn).2.2.1, ht])]
  · intro m hm
    obtain ⟨n, hn, hnm⟩ := List.mem_filterMap.mp hm
    exact ⟨n, hn, (clearedNotice_some hnm).2.2.2⟩

theorem clearedLine_kept {s t : State} (ht : t.line = clearedLine s.line) : LineKept s (settleLine t) := by
  obtain ⟨hcls, hsent, htimed, hcoll⟩ := filterMap_clearedNotice s.line.queue
  have hq : t.line.queue = s.line.queue.filterMap clearedNotice := congrArg LineBlock.queue ht
  have hstate : t.line.state = s.line.state := by rw [ht]; rfl
  refine ⟨fun h => settleLine_sound ?_ ?_, fun h => settleLine_within ⟨?_, ?_, ?_, ?_⟩⟩
  · rw [hq, ordered_iff]
    exact ((ordered_iff _).mp h.ordered).sublist hcls
  · rw [hq, hsent, hstate]
    exact h.sending
  · rw [hq]
    exact (List.length_filterMap_le _ _).trans h.transmitQueue
  · rw [hq, List.countP_eq_length_filter, htimed, ← List.countP_eq_length_filter]
    exact h.timedNotices
  · intro m hm
    obtain ⟨n, hn, he⟩ := hcoll m (hq ▸ hm)
    exact he ▸ h.collisions n hn
  · rw [show t.line.intake = [] from congrArg LineBlock.intake ht]
    exact Nat.zero_le _

theorem offerIntake_kept (x : IntakeItem) (s : State) : LineKept s (offerIntake x s) := by
  unfold offerIntake
  split
  · rename_i hl
    refine ⟨fun h => ⟨h.ordered, h.listening, h.deferring, h.sending⟩,
      fun h => ⟨h.transmitQueue, h.timedNotices, h.collisions, ?_⟩⟩
    simpa using hl
  · exact lineKept_of_eq rfl rfl rfl

/-- The intake loses items. -/
theorem intakeTail_kept {s : State} {l : List IntakeItem} (hl : l.length ≤ s.line.intake.length) :
    LineKept s { s with line := { s.line with intake := l } } :=
  ⟨fun h => ⟨h.ordered, h.listening, h.deferring, h.sending⟩,
    fun h => ⟨h.transmitQueue, h.timedNotices, h.collisions, hl.trans h.intake⟩⟩

/-- A line that resets: LISTENING, with an empty queue and an empty intake. -/
theorem listening_kept {s t : State} (hs : t.line.state = .listening) (hq : t.line.queue = []) (hi : t.line.intake = []) :
    LineKept s t :=
  ⟨fun _ => ⟨by rw [hq]; exact .nil, fun _ => hq, fun e => absurd (hs.symm.trans e) nofun, by rw [hq, hs]; rfl⟩,
    fun _ => ⟨by rw [hq]; exact Nat.zero_le _, by rw [hq]; exact Nat.zero_le _, by rw [hq]; nofun,
      by rw [hi]; exact Nat.zero_le _⟩⟩

end Sys2Proof.Machine
end

section
/-! PROOFS. What every operation keeps: the invariants of the guards, the peers, the line, the log and ATTN, and the capacities, each
about a block of its own (1.3, 4.3, 5.3, 9.1, 9.4); and that the moves on a slot keep them all. -/

namespace Sys2Proof.Machine

/-! ## The capacities by block -/

/-- The capacities of the gatherer (R19 to R21, R24, R33). -/
structure GatherWithin (b : GatherBlock) : Prop where
  entries : b.entries.length ≤ Config.passPlaces
  passes : ∀ e ∈ b.entries, EntryBounded e
  localQueue : b.queue.length ≤ Config.localPlaces
  localHits : ∀ x ∈ b.queue, x.hitCount ≤ Config.countLimit
  filter : b.filter.length ≤ 128

/-- The capacities of the competitor table, its lists and the arbiter (R48, R93, R104, R109, R111, R112, R135). -/
structure TableWithin (b : TableBlock) : Prop where
  pendingOnce : (b.pending.map (·.slot)).Nodup
  settleOnce : (b.settle.map (·.slot)).Nodup
  watchOnce : (b.watch.map (·.slot)).Nodup
  trapOnce : (b.trap.map (·.slot)).Nodup
  settle : b.settle.length ≤ Config.settlePlaces
  watch : b.watch.length ≤ Config.watchPlaces
  bypass : ∀ r, bypassOf b.bypass r ≤ 15
  laps : ∀ i : SlotNo, b.slots[i].lapCount ≤ Config.countLimit
  reclaimed : b.reclaimed ≤ Config.countLimit
  untracked : b.untracked ≤ Config.countLimit
  dropped : b.dropped ≤ Config.countLimit

theorem withinCapacities_iff (s : State) : WithinCapacities s ↔
    GatherWithin s.gather ∧ LineWithin s.line ∧ TableWithin s.table ∧ s.report.fifo.length ≤ Config.fifoPlaces := by
  constructor
  · intro h
    exact ⟨⟨h.entries, h.passes, h.localQueue, h.localHits, h.filter⟩, ⟨h.transmitQueue, h.timedNotices, h.collisions, h.intake⟩,
      ⟨h.pendingOnce, h.settleOnce, h.watchOnce, h.trapOnce, h.settle, h.watch, h.bypass, h.laps, h.reclaimed, h.untracked,
        h.dropped⟩, h.fifo⟩
  · rintro ⟨g, l, t, f⟩
    exact { entries := g.entries, passes := g.passes, localQueue := g.localQueue, localHits := g.localHits, filter := g.filter,
            transmitQueue := l.transmitQueue, timedNotices := l.timedNotices, collisions := l.collisions, intake := l.intake,
            pendingOnce := t.pendingOnce, settleOnce := t.settleOnce, watchOnce := t.watchOnce, trapOnce := t.trapOnce,
            settle := t.settle, watch := t.watch, fifo := f, bypass := t.bypass, laps := t.laps, reclaimed := t.reclaimed,
            untracked := t.untracked, dropped := t.dropped }

/-! ## Invariants of one block -/

/-- `t` keeps each block's invariant that `s` meets, and the commands that wait. -/
structure Keeps (s t : State) : Prop where
  pending : t.pending = s.pending
  guards : GuardsSound s → GuardsSound t
  peers : PeersSound s → PeersSound t
  line : LineKept s t
  log : LogSound s → LogSound t
  attn : AttnSound s → AttnSound t
  gather : GatherWithin s.gather → GatherWithin t.gather
  table : TableWithin s.table → TableWithin t.table
  fifo : s.report.fifo.length ≤ Config.fifoPlaces → t.report.fifo.length ≤ Config.fifoPlaces

theorem Keeps.refl (s : State) : Keeps s s := ⟨rfl, id, id, .refl s, id, id, id, id, id⟩

theorem Keeps.trans {s t u : State} (h : Keeps s t) (k : Keeps t u) : Keeps s u :=
  ⟨k.pending.trans h.pending, k.guards ∘ h.guards, k.peers ∘ h.peers, h.line.trans k.line, k.log ∘ h.log, k.attn ∘ h.attn,
    k.gather ∘ h.gather, k.table ∘ h.table, k.fifo ∘ h.fifo⟩

/-- The capacities are kept where each block keeps its own. -/
theorem Keeps.capacities {s t : State} (h : Keeps s t) (hs : WithinCapacities s) : WithinCapacities t := by
  obtain ⟨hg, hl, ht, hf⟩ := (withinCapacities_iff s).mp hs
  exact (withinCapacities_iff t).mpr ⟨h.gather hg, h.line.within hl, h.table ht, h.fifo hf⟩

theorem guardsSound_of_eq {s t : State} (hg : t.channels.guards = s.channels.guards) (hc : t.station.conf = s.station.conf)
    (h : GuardsSound s) : GuardsSound t := by
  have hof : ∀ ch, guardOf t ch = guardOf s ch := fun ch => by unfold guardOf; rw [hg]
  have hon : ∀ ch, channelOn t ch = channelOn s ch := fun ch => by unfold channelOn; rw [hc]
  exact ⟨fun ch => hof ch ▸ h.sound ch, fun ch => by rw [hof ch, hon ch]; exact h.off ch⟩

theorem peersSound_of_eq {s t : State} (hp : t.clock.peers = s.clock.peers) (h : PeersSound s) : PeersSound t := fun k => by
  have : peerOf t k = peerOf s k := by unfold peerOf; rw [hp]
  exact this ▸ h k

theorem logSound_of_eq {s t : State} (hl : t.log = s.log) (h : LogSound s) : LogSound t :=
  ⟨hl ▸ h.counter, hl ▸ h.places, hl ▸ h.rising⟩

theorem attnSound_of_eq {s t : State} (hs : t.station.fault = s.station.fault) (hc : t.station.conf = s.station.conf)
    (hf : t.report.fifo = s.report.fifo) (ho : t.report.overrun = s.report.overrun) (ha : t.report.attn = s.report.attn)
    (h : AttnSound s) : AttnSound t := by
  have hr : thresholdReached t ↔ thresholdReached s := by unfold thresholdReached; rw [hc, hf]
  exact ⟨by rw [hs, ho, hr, ha]; exact h.called, by rw [ha, hs, ho, hr, hc, hf]; exact h.caused⟩

/-- ATTN judged afresh is sound, whatever it was before. -/
theorem judgeAttn_sound (s : State) : AttnSound (judgeAttn s) := by
  constructor
  · rintro (h | h | ⟨p, hp, hl⟩)
    · exact (judgeAttn_attn s).mpr (.inl h)
    · exact (judgeAttn_attn s).mpr (.inr (.inl h))
    · exact (judgeAttn_attn s).mpr (.inr (.inr ⟨p, hp, by simp [fifoCalls, show p.fifoThreshold ≤ s.report.fifo.length from hl]⟩))
  · intro h
    rcases (judgeAttn_attn s).mp h with h | h | ⟨p, hp, hl⟩
    · exact .inl h
    · exact .inr (.inl h)
    · have hconf : (judgeAttn s).station.conf.isSome = true := by rw [judgeAttn_station, hp]; rfl
      rcases Bool.or_eq_true_iff.mp hl with hl | hl
      · exact .inr (.inr (.inl ⟨p, hp, of_decide_eq_true hl⟩))
      · refine .inr (.inr (.inr ⟨hconf, fun hn => ?_⟩))
        have hn : s.report.fifo = [] := hn
        simp [hn] at hl

/-! ## Operations that reach one block -/

/-- An operation on the report port alone, after which ATTN is sound. -/
theorem keeps_of_report {s t : State} (h : t = { s with report := t.report }) (ha : AttnSound s → AttnSound t)
    (hf : s.report.fifo.length ≤ Config.fifoPlaces → t.report.fifo.length ≤ Config.fifoPlaces) : Keeps s t := by
  rw [h]
  exact ⟨rfl, guardsSound_of_eq rfl rfl, peersSound_of_eq rfl, lineKept_of_line rfl, logSound_of_eq rfl, h ▸ ha, id, id, hf⟩

/-- The port's state and its transaction, in which the records and ATTN stand. -/
theorem keeps_of_port {s : State} (port : PortState) (tr : Option Transaction) :
    Keeps s { s with report := { s.report with port := port, transaction := tr } } :=
  keeps_of_report rfl (attnSound_of_eq rfl rfl rfl rfl rfl) id

/-- An operation on the line alone. -/
theorem keeps_of_line {s t : State} (h : t = { s with line := t.line }) (hl : LineKept s t) : Keeps s t := by
  refine ⟨?_, ?_, ?_, hl, ?_, ?_, ?_, ?_, ?_⟩ <;> rw [h]
  · exact guardsSound_of_eq rfl rfl
  · exact peersSound_of_eq rfl
  · exact logSound_of_eq rfl
  · exact attnSound_of_eq rfl rfl rfl rfl rfl
  all_goals exact id

/-- An operation on the line and the log. -/
theorem keeps_of_line_log {s t : State} (h : t = { s with line := t.line, log := t.log }) (hl : LineKept s t)
    (hg : LogSound s → LogSound t) : Keeps s t := by
  refine ⟨?_, ?_, ?_, hl, hg, ?_, ?_, ?_, ?_⟩ <;> rw [h]
  · exact guardsSound_of_eq rfl rfl
  · exact peersSound_of_eq rfl
  · exact attnSound_of_eq rfl rfl rfl rfl rfl
  all_goals exact id

/-- An operation on the schedules, with the peers as they are. -/
theorem keeps_of_schedules {s t : State} (h : t = { s with clock := t.clock }) (hp : t.clock.peers = s.clock.peers) : Keeps s t := by
  have hpeers : PeersSound s → PeersSound t := peersSound_of_eq hp
  refine ⟨?_, ?_, hpeers, ?_, ?_, ?_, ?_, ?_, ?_⟩ <;> rw [h]
  · exact guardsSound_of_eq rfl rfl
  · exact lineKept_of_line rfl
  · exact logSound_of_eq rfl
  · exact attnSound_of_eq rfl rfl rfl rfl rfl
  all_goals exact id

/-- An operation on the competitor table alone. -/
theorem keeps_of_table {s : State} {b : TableBlock} (hb : TableWithin s.table → TableWithin b) : Keeps s { s with table := b } :=
  ⟨rfl, guardsSound_of_eq rfl rfl, peersSound_of_eq rfl, lineKept_of_line rfl, logSound_of_eq rfl,
    attnSound_of_eq rfl rfl rfl rfl rfl, id, hb, id⟩

/-- An operation on the log alone. -/
theorem keeps_of_log {s t : State} (h : t = { s with log := t.log }) (hl : LogSound s → LogSound t) : Keeps s t := by
  refine ⟨?_, ?_, ?_, ?_, hl, ?_, ?_, ?_, ?_⟩ <;> rw [h]
  · exact guardsSound_of_eq rfl rfl
  · exact peersSound_of_eq rfl
  · exact lineKept_of_line rfl
  · exact attnSound_of_eq rfl rfl rfl rfl rfl
  all_goals exact id

/-- An operation on the gatherer alone. -/
theorem keeps_of_gather {s : State} {b : GatherBlock} (hb : GatherWithin s.gather → GatherWithin b) :
    Keeps s { s with gather := b } :=
  ⟨rfl, guardsSound_of_eq rfl rfl, peersSound_of_eq rfl, lineKept_of_line rfl, logSound_of_eq rfl,
    attnSound_of_eq rfl rfl rfl rfl rfl, hb, id, id⟩

/-- An operation on station control that leaves configuration and fault as they are. -/
theorem keeps_of_station {s : State} {b : StationBlock} (hc : b.conf = s.station.conf) (hf : b.fault = s.station.fault) :
    Keeps s { s with station := b } :=
  ⟨rfl, guardsSound_of_eq rfl hc, peersSound_of_eq rfl, lineKept_of_line rfl, logSound_of_eq rfl,
    attnSound_of_eq hf hc rfl rfl rfl, id, id, id⟩

/-! ## Records and faults -/

theorem offerRecord_keeps (b : RecordBody) (s : State) : Keeps s (offerRecord b s) :=
  keeps_of_report (offerRecord_frame b s).1 (fun _ => judgeAttn_sound _) (offerRecord_fifo_le b s)

theorem offerRecords_keeps (bs : List RecordBody) (s : State) : Keeps s (offerRecords bs s) := by
  induction bs generalizing s with
  | nil => exact .refl s
  | cons b bs ih => exact (offerRecord_keeps b s).trans (ih _)

theorem offerFault_keeps (code : FaultCode) (detail : Option Nat) (s : State) : Keeps s (offerFault code detail s) :=
  ⟨rfl, guardsSound_of_eq rfl rfl, peersSound_of_eq rfl, lineKept_of_line rfl, logSound_of_eq rfl, fun _ => judgeAttn_sound _,
    id, id, id⟩

/-! ## The log -/

/-- The places changed one by one, each with its number and, where it holds one, an entry of its number. -/
theorem logSound_map {s t : State} {g : LogPlace → LogPlace} (ht : t.log = { s.log with places := s.log.places.map g })
    (hn : ∀ q, (g q).number = q.number)
    (ho : ∀ q, (∀ e, q.entry = some e → e.number = q.number) → ∀ e, (g q).entry = some e → e.number = q.number)
    (h : LogSound s) : LogSound t := by
  refine ⟨by rw [ht]; exact h.counter, fun q hq => ?_, ?_⟩
  · rw [ht] at hq ⊢
    obtain ⟨r, hr, rfl⟩ := List.mem_map.mp hq
    obtain ⟨⟨k, hk, h1, h2, h3⟩, hown⟩ := h.places r hr
    exact ⟨⟨k, hk, (hn r).symm ▸ h1, (hn r).symm ▸ h2, (hn r).symm ▸ h3⟩, fun e he => (ho r hown e he).trans (hn r).symm⟩
  · rw [ht]
    refine List.pairwise_map.mpr (h.rising.imp fun hab => ?_)
    rw [hn, hn]
    exact hab

theorem updateLog_logSound {s : State} {n : Nat} {f : LogEntry → LogEntry} (hf : ∀ e, (f e).number = e.number) (h : LogSound s) :
    LogSound (updateLog n f s) := by
  refine logSound_map (g := changePlace n f) rfl (changePlace_number n f) (fun q hq e he => ?_) h
  unfold changePlace at he
  split at he
  · obtain ⟨e, he', rfl⟩ := Option.map_eq_some_iff.mp he
    exact (hf e).trans (hq e he')
  · exact hq e he

theorem writeLog_logSound {s : State} {n : Nat} {e : LogEntry} (he : e.number = n) (h : LogSound s) :
    LogSound (writeLog n e s) := by
  refine logSound_map (g := fillPlace n e) rfl (fillPlace_number n e) (fun q hq d hd => ?_) h
  unfold fillPlace at hd
  split at hd
  · rename_i hn
    cases hd
    exact he.trans hn.symm
  · exact hq d hd

theorem releaseSlots_logSound {s : State} (gone : SlotNo → Bool) (h : LogSound s) : LogSound (releaseSlots gone s) := by
  refine logSound_map (g := fun q => { q with entry := q.entry.map (releaseEntry gone) }) rfl (fun _ => rfl) (fun q hq e he => ?_) h
  obtain ⟨e, he', rfl⟩ := Option.map_eq_some_iff.mp he
  exact hq e he'

theorem updateLog_keeps {n : Nat} {f : LogEntry → LogEntry} (hf : ∀ e, (f e).number = e.number) (s : State) :
    Keeps s (updateLog n f s) := keeps_of_log rfl (updateLog_logSound hf)

/-- What an offer to the High class or a revision may do to the log: a mark alone. -/
def MarksLog (s t : State) : Prop := t.log = s.log ∨ ∃ n f, EntryKept f ∧ t.log = (updateLog n f s).log

theorem MarksLog.sound {s t : State} (h : MarksLog s t) (hs : LogSound s) : LogSound t := by
  obtain h | ⟨n, f, hf, h⟩ := h
  · exact logSound_of_eq h hs
  · exact logSound_of_eq h (updateLog_logSound hf.number hs)

theorem clearUnsent_kept : EntryKept clearUnsent := entryKept_of_fields fun _ => rfl

theorem offerHigh_marks (n : Nat) (b : NoticeBody) (o : Owed) (s : State) : MarksLog s (offerHigh n b o s) := by
  obtain ⟨-, h⟩ | ⟨-, h⟩ := offerHigh_cases n b o s <;> rw [h]
  · exact .inl (by rw [(settleLine_frame _).1]; rfl)
  · exact .inr ⟨n, _, entryKept_of_fields fun _ => rfl, rfl⟩

theorem pullUnsent_marks (s : State) : MarksLog s (pullUnsent s) := by
  obtain hp | ⟨b, e, -, -, hp⟩ := pullUnsent_cases s <;> rw [hp]
  · exact .inl rfl
  · exact .inr ⟨e, _, clearUnsent_kept, by rw [(settleLine_frame _).1]; rfl⟩

theorem offerRevision_marks (x transponder : Nat) (r : Revision) (s : State) : MarksLog s (offerRevision x transponder r s) := by
  unfold offerRevision
  split
  · unfold reviseUnsent
    split
    · exact .inr ⟨_, _, clearUnsent_kept, rfl⟩
    · exact .inl rfl
  · split
    · dsimp only
      split
      · rw [(settleLine_frame _).1]
        exact pullUnsent_marks (setQueue (reviseQueue x r s.line.queue).1 s)
      · exact .inl rfl
    · exact offerHigh_marks _ _ _ _

theorem offerHigh_keeps {n : Nat} {b : NoticeBody} {o : Owed} {s : State} (hb : isTimed (freshNotice b .high s.now) = false) :
    Keeps s (offerHigh n b o s) :=
  keeps_of_line_log (offerHigh_frame n b o s) (offerHigh_kept hb) (offerHigh_marks n b o s).sound

theorem offerRevision_keeps (x transponder : Nat) (r : Revision) (s : State) : Keeps s (offerRevision x transponder r s) :=
  keeps_of_line_log (offerRevision_frame x transponder r s) (offerRevision_kept x transponder r s)
    (offerRevision_marks x transponder r s).sound

/-! ## Draws -/

/-- The latest drawn number is one less than a counter in range. -/
theorem latestDrawn_of_counter {b : LogBlock} {n : Nat} (h : b.counter = some n) :
    latestDrawn b = if n ≤ 1 then none else some (n - 1) := by
  unfold latestDrawn
  rw [h]

theorem latestDrawn_drawBlock {n : Nat} (b : LogBlock) (h1 : 1 ≤ n) (h2 : n ≤ Config.lastNumber) :
    latestDrawn (drawBlock n b) = some n := by
  unfold latestDrawn drawBlock
  by_cases hn : n < Config.lastNumber
  · simp only [if_pos hn]
    rw [if_neg (by omega)]
    rfl
  · simp only [if_neg hn]
    exact congrArg some (by omega)

/-- The place reserved for the number just drawn is sound. -/
theorem reserved_sound {b : LogBlock} {n : Nat} (hl : latestDrawn b = some n) (h1 : 1 ≤ n) :
    PlaceSound b { number := n, entry := none } where
  drawn := ⟨n, hl, h1, le_refl n, Nat.lt_add_of_pos_right (Nat.succ_pos 2047)⟩
  own _ he := nomatch he

theorem drawBlock_logSound {s t : State} {n : Nat} (hc : s.log.counter = some n) (ht : t.log = drawBlock n s.log)
    (h : LogSound s) : LogSound t := by
  obtain ⟨h1, h2⟩ := h.counter n hc
  have hplaces : t.log.places = reservePlace n s.log.places := by rw [ht]; rfl
  have hold : ∀ q ∈ s.log.places, 1 ≤ q.number ∧ q.number < n ∧ n ≤ q.number + 2048 := by
    intro q hq
    obtain ⟨⟨k, hk, hq1, hq2, hq3⟩, -⟩ := h.places q hq
    rw [latestDrawn_of_counter hc] at hk
    split at hk
    · cases hk
    · simp only [Option.some.injEq] at hk
      simp only [Config.logPlaces] at hq3
      omega
  refine ⟨fun m hm => ?counter, fun q hq => ?places, ?rising⟩
  case counter =>
    rw [ht] at hm
    unfold drawBlock at hm
    dsimp only at hm
    split at hm
    · cases hm
      omega
    · cases hm
  case places =>
    rw [hplaces, mem_reservePlace] at hq
    have hl : latestDrawn t.log = some n := ht ▸ latestDrawn_drawBlock s.log h1 h2
    rcases hq with ⟨hq, hmod⟩ | rfl
    · obtain ⟨hq1, hq2, hq3⟩ := hold q hq
      refine ⟨⟨n, hl, hq1, hq2.le, ?_⟩, (h.places q hq).own⟩
      have : n ≠ q.number + 2048 := fun e => hmod (by omega)
      simp only [Config.logPlaces]
      omega
    · exact reserved_sound hl h1
  case rising =>
    rw [hplaces]
    refine List.pairwise_append.mpr ⟨h.rising.sublist List.filter_sublist, List.pairwise_singleton _ _, ?_⟩
    intro a ha b hb
    rw [List.mem_singleton.mp hb]
    exact (hold a (List.mem_of_mem_filter ha)).2.1

/-- A draw changes the log, and at the last number station control and ATTN. -/
theorem drawNumber_keeps (s : State) : Keeps s (drawNumber s).2 := by
  obtain ⟨-, h⟩ | ⟨n, hc, -, h⟩ | ⟨n, hc, -, h⟩ := drawNumber_cases s <;> rw [h]
  · exact .refl s
  · exact keeps_of_log rfl (drawBlock_logSound hc rfl)
  · refine Keeps.trans (t := { s with log := drawBlock n s.log }) (keeps_of_log rfl (drawBlock_logSound hc rfl)) ?_
    unfold exhaust
    dsimp only
    split
    · exact (offerFault_keeps _ _ _).trans (keeps_of_station rfl rfl)
    · exact offerFault_keeps _ _ _

/-! ## The timed lists -/

/-- An entry of another slot joins a list with at most one entry for each slot. -/
theorem insertByTime_once {α : Type} (time : α → Time) (slot : α → SlotNo) {x : α} {l : List α} (h : (l.map slot).Nodup)
    (hx : ∀ y ∈ l, slot y ≠ slot x) : ((insertByTime time x l).map slot).Nodup := by
  refine ((insertByTime_perm time x l).map slot).nodup_iff.mpr (List.nodup_cons.mpr ⟨fun hm => ?_, h⟩)
  obtain ⟨y, hy, he⟩ := List.mem_map.mp hm
  exact hx y hy he

theorem filter_once {α : Type} (slot : α → SlotNo) (f : α → Bool) {l : List α} (h : (l.map slot).Nodup) :
    ((l.filter f).map slot).Nodup := h.sublist (List.filter_sublist.map slot)

theorem map_once {α : Type} (slot : α → SlotNo) {f : α → α} {l : List α} (hf : ∀ e, slot (f e) = slot e) (h : (l.map slot).Nodup) :
    ((l.map f).map slot).Nodup := by
  rw [List.map_map]
  exact (List.map_congr_left fun e _ => hf e) ▸ h

/-- A search by slot that finds nothing meets no entry of the slot. -/
theorem slot_ne_of_find {α : Type} {slot : α → SlotNo} {i : SlotNo} {l : List α} (h : l.find? (fun e => slot e == i) = none) :
    ∀ y ∈ l, slot y ≠ i := fun y hy => by simpa using List.find?_eq_none.mp h y hy

/-- A list loses an entry where its search by slot finds one. -/
theorem length_filter_of_find {α : Type} {slot : α → SlotNo} {i : SlotNo} {l : List α} {f : α}
    (h : l.find? (fun e => slot e == i) = some f) : (l.filter (fun e => slot e != i)).length < l.length := by
  refine List.length_filter_lt_length_iff_exists.mpr ⟨f, List.mem_of_find?_eq_some h, ?_⟩
  simpa using List.find?_some h

/-! ## Moves on a slot -/

theorem setSlot_tableWithin {s : State} {i : SlotNo} {x : Slot}
    (hx : (slotOf s i).lapCount ≤ Config.countLimit → x.lapCount ≤ Config.countLimit) (h : TableWithin s.table) :
    TableWithin (setSlot i x s).table := by
  refine ⟨h.pendingOnce, h.settleOnce, h.watchOnce, h.trapOnce, h.settle, h.watch, h.bypass, fun j => ?_, h.reclaimed, h.untracked,
    h.dropped⟩
  show (slotOf (setSlot i x s) j).lapCount ≤ _
  by_cases hj : j = i
  · subst hj
    rw [slotOf_setSlot_same]
    exact hx (h.laps j)
  · rw [slotOf_setSlot_other _ _ _ _ hj]
    exact h.laps j

theorem settleTimer_tableWithin {s : State} (h : TableWithin s.table) : TableWithin (settleTimer s).table := by
  obtain ⟨-, he⟩ | ⟨-, he⟩ := settleTimer_cases s <;> rw [he]
  · refine ⟨h.pendingOnce, h.settleOnce, h.watchOnce, h.trapOnce, h.settle, h.watch, fun r => ?_, h.laps, h.reclaimed, h.untracked,
      h.dropped⟩
    cases r with
    | timer => exact Nat.zero_le _
    | loc => exact h.bypass .loc
    | line => exact h.bypass .line
    | port => exact h.bypass .port
  · exact h

/-- Every move on a slot keeps the invariants of the blocks. -/
theorem SlotMove.keeps {arms : Prop} {i : SlotNo} {s t : State} (h : SlotMove arms i s t) : Keeps s t := by
  cases h with
  | slot hk => exact keeps_of_table (setSlot_tableWithin hk.laps)
  | logged n hf => exact updateLog_keeps hf.number s
  | written he => exact keeps_of_log rfl (writeLog_logSound he)
  | recorded b => exact offerRecord_keeps b s
  | noticed n o hb => exact offerHigh_keeps hb
  | revised n tr r => exact offerRevision_keeps n tr r s
  | pendingRemoved =>
    exact keeps_of_table fun h => { h with pendingOnce := filter_once _ _ h.pendingOnce }
  | settleRemoved =>
    exact keeps_of_table fun h =>
      { h with settleOnce := filter_once _ _ h.settleOnce, settle := (List.length_filter_le _ _).trans h.settle }
  | watchRemoved =>
    exact keeps_of_table fun h =>
      { h with watchOnce := filter_once _ _ h.watchOnce, watch := (List.length_filter_le _ _).trans h.watch }
  | trapRemoved => exact keeps_of_table fun h => { h with trapOnce := filter_once _ _ h.trapOnce }
  | pendingAdded hi hn _ =>
    exact keeps_of_table fun h =>
      { h with pendingOnce := insertByTime_once _ _ h.pendingOnce (hi ▸ slot_ne_of_find hn) }
  | settleAdded hi hn _ hl =>
    exact keeps_of_table fun h =>
      { h with
        settleOnce := insertByTime_once _ _ h.settleOnce (hi ▸ slot_ne_of_find hn)
        settle := (length_insertByTime _ _ _).trans_le hl }
  | settleReplaced hi hf _ =>
    subst hi
    exact keeps_of_table fun h =>
      { h with
        settleOnce := insertByTime_once _ _ (filter_once _ _ h.settleOnce)
          (slot_ne_of_find (slot := SettleEntry.slot) (settleOf_removeSettle _ s))
        settle := (length_insertByTime _ _ _).trans_le ((length_filter_of_find hf).trans_le h.settle) }
  | watchAdded _ hi hn hl =>
    exact keeps_of_table fun h =>
      { h with
        watchOnce := insertByTime_once _ _ h.watchOnce (hi ▸ slot_ne_of_find hn)
        watch := (length_insertByTime _ _ _).trans_le hl }
  | trapAdded hi hn _ =>
    exact keeps_of_table fun h => { h with trapOnce := insertByTime_once _ _ h.trapOnce (hi ▸ slot_ne_of_find hn) }
  | pendingChanged hf => exact keeps_of_table fun h => { h with pendingOnce := map_once _ hf h.pendingOnce }
  | settleChanged hf =>
    exact keeps_of_table fun h =>
      { h with settleOnce := map_once _ hf h.settleOnce, settle := (List.length_map _).trans_le h.settle }
  | trapChanged hf => exact keeps_of_table fun h => { h with trapOnce := map_once _ hf h.trapOnce }
  | timerSettled => exact keeps_of_table settleTimer_tableWithin
  | watchFullSet => exact keeps_of_table fun h => { h with }

theorem SlotMoves.keeps {arms : Prop} {i : SlotNo} {s t : State} (h : SlotMoves arms i s t) : Keeps s t := by
  induction h with
  | refl => exact .refl s
  | tail _ hm ih => exact ih.trans hm.keeps

end Sys2Proof.Machine
end

section
/-! PROOFS. What the guards, the gatherer and the clock unit keep (chapters 1, 2 and 4). -/

namespace Sys2Proof.Machine

/-! ## The guards -/

theorem putGuard_sound {s t : State} {ch : Channel} {g : Guard} (ht : t.channels.guards = putChannel s.channels.guards ch g)
    (hc : t.station.conf = s.station.conf) (hon : channelOn s ch = true) (hg : GuardSound (guardOf s ch) → GuardSound g)
    (h : GuardsSound s) : GuardsSound t := by
  have hsame : guardOf t ch = g := by unfold guardOf; rw [ht, ofChannel_putChannel_same]
  have hother : ∀ k, k ≠ ch → guardOf t k = guardOf s k := fun k hk => by
    unfold guardOf
    rw [ht, ofChannel_putChannel_other _ _ _ _ hk]
  have hsame_on : ∀ k, channelOn t k = channelOn s k := fun k => by unfold channelOn; rw [hc]
  constructor <;> intro k
  · by_cases hk : k = ch
    · subst hk
      exact hsame ▸ hg (h.sound k)
    · exact (hother k hk) ▸ h.sound k
  · intro hoff
    have hk : k ≠ ch := fun e => by
      rw [hsame_on, e, hon] at hoff
      cases hoff
    rw [hother k hk]
    exact h.off k (hsame_on k ▸ hoff)

/-- A guard that moves to a sound one. -/
theorem setGuard_keeps {s : State} {ch : Channel} {g : Guard} (hon : channelOn s ch = true)
    (hg : GuardSound (guardOf s ch) → GuardSound g) : Keeps s (setGuard ch g s) :=
  ⟨rfl, putGuard_sound rfl rfl hon hg, peersSound_of_eq rfl, lineKept_of_line rfl, logSound_of_eq rfl,
    attnSound_of_eq rfl rfl rfl rfl rfl, id, id, id⟩

theorem initialGuard_sound : GuardSound Guard.initial := ⟨rfl, rfl, rfl⟩

theorem risenGuard_sound (c : ChannelParams) (now : Time) {g : Guard} (h : GuardSound g) : GuardSound (risenGuard c now g) := by
  obtain ⟨hf, hq, ht⟩ := h
  unfold risenGuard
  cases hs : g.state <;> rw [hs] at hf hq ht
  · exact ⟨rfl, hq, ht⟩
  · exact ⟨hf, hq, ht⟩
  · exact ⟨hf, hq, ht⟩
  · exact ⟨hf, rfl, ht⟩

theorem fallenGuard_sound (c : ChannelParams) (now : Time) {g : Guard} (h : GuardSound g) : GuardSound (fallenGuard c now g) := by
  obtain ⟨hf, hq, ht⟩ := h
  unfold fallenGuard
  cases hs : g.state <;> rw [hs] at hf hq ht
  · exact ⟨hf, hq, ht⟩
  · exact ⟨rfl, hq, ht⟩
  · cases c.guardMode
    · exact ⟨hf, rfl, ht⟩
    · exact ⟨hf, hq, ht⟩
  · exact ⟨hf, hq, ht⟩

theorem trippedGuard_sound {now : Time} {g : Guard} (hs : g.state = .watching) (h : GuardSound g) :
    GuardSound (trippedGuard now g) := ⟨rfl, h.quiet.trans (by rw [hs]; rfl), rfl⟩

theorem reopenedGuard_sound {g : Guard} (hs : g.state ≠ .watching) (h : GuardSound g) : GuardSound (reopenedGuard g) :=
  ⟨h.filter.trans (by simp [hs, reopenedGuard]), rfl, rfl⟩

theorem sampledGuard_sound (c : ChannelParams) (now : Time) (level : Nat) : GuardSound (sampledGuard c now level) := by
  unfold sampledGuard
  split
  · exact risenGuard_sound c now initialGuard_sound
  · exact initialGuard_sound

/-! ## The entries of the open-pass table -/

/-- Stored hits and hit count of an entry are those of another, or none are stored. -/
theorem entryBounded_of {e f : Entry} (hs : f.stored = e.stored ∨ f.stored = []) (hc : f.hitCount = e.hitCount)
    (h : EntryBounded e) : EntryBounded f := by
  refine ⟨?_, hc ▸ h.hitCount⟩
  obtain hs | hs := hs <;> rw [hs]
  · exact h.stored
  · exact Nat.zero_le _

theorem closedEntry_bounded {p : Params} {c : CloseCause} {n : Option Nat} {k : Nat} {e : Entry} (h : EntryBounded e) :
    EntryBounded (closedEntry p c n k e) := entryBounded_of (e := e) (.inl rfl) rfl h

theorem markerOf_bounded {p : Params} {e : Entry} (h : EntryBounded e) : EntryBounded (markerOf p e) :=
  entryBounded_of (e := e) (.inr rfl) rfl h

theorem newEntry_bounded (p : Params) (k : PassKey) (h : Hit) : EntryBounded (newEntry p k h) :=
  ⟨Nat.succ_le_succ (Nat.zero_le 31), Nat.succ_le_succ (Nat.zero_le 65534)⟩

/-- Storing a hit leaves 32 stored hits at most: a decimation makes its room. -/
theorem storeHit_stored {x : StoredHit} {e : Entry} (h : e.stored.length ≤ Config.storedHits) :
    (storeHit x e).stored.length ≤ Config.storedHits := by
  unfold storeHit
  split
  · rename_i hl
    rw [List.length_append]
    exact hl
  · split
    · have := evenPlaces_length e.stored
      simp only [List.length_append, List.length_cons, List.length_nil, Config.storedHits] at *
      omega
    · exact h

theorem storeHit_hitCount (x : StoredHit) (e : Entry) : (storeHit x e).hitCount = e.hitCount := by
  unfold storeHit
  split
  · rfl
  · split <;> rfl

theorem offerStore_bounded {h : Hit} {e : Entry} (he : EntryBounded e) : EntryBounded (offerStore h e) := by
  unfold offerStore
  split
  · exact ⟨storeHit_stored he.stored, (storeHit_hitCount _ _).trans_le he.hitCount⟩
  · exact ⟨he.stored, he.hitCount⟩

theorem joinHit_bounded {p : Params} {h : Hit} {e : Entry} (he : EntryBounded e) : EntryBounded (joinHit p h e) :=
  offerStore_bounded ⟨he.stored, countUp_le _ he.hitCount⟩

theorem refreshMarker_bounded {p : Params} {h : Hit} {e : Entry} (he : EntryBounded e) : EntryBounded (refreshMarker p h e) :=
  entryBounded_of (e := e) (.inl rfl) rfl he

/-! ## The gatherer -/

/-- Other entries, no more than before and bounded as they were. -/
theorem GatherWithin.setEntries {b : GatherBlock} {es : List Entry} (h : GatherWithin b) (hl : es.length ≤ b.entries.length)
    (he : ∀ e ∈ es, EntryBounded e) : GatherWithin { b with entries := es } :=
  ⟨hl.trans h.entries, he, h.localQueue, h.localHits, h.filter⟩

theorem setEntries_keeps {s : State} {es : List Entry} (hl : es.length ≤ s.gather.entries.length)
    (he : (∀ e ∈ s.gather.entries, EntryBounded e) → ∀ e ∈ es, EntryBounded e) : Keeps s (setEntries es s) :=
  keeps_of_gather fun h => h.setEntries hl (he h.passes)

theorem updateLive_bounded {k : PassKey} {f : Entry → Entry} {es : List Entry} (hf : ∀ e, EntryBounded e → EntryBounded (f e))
    (h : ∀ e ∈ es, EntryBounded e) : ∀ e ∈ updateLive k f es, EntryBounded e := by
  intro e he
  obtain ⟨d, hd, rfl⟩ := List.mem_map.mp he
  split
  · exact hf d (h d hd)
  · exact h d hd

theorem updateLive_keeps {s : State} (k : PassKey) {f : Entry → Entry} (hf : ∀ e, EntryBounded e → EntryBounded (f e)) :
    Keeps s (setEntries (updateLive k f s.gather.entries) s) :=
  setEntries_keeps (length_updateLive k f _).le fun h => updateLive_bounded hf h

theorem dropLive_keeps (k : PassKey) (s : State) : Keeps s (dropLive k s) :=
  setEntries_keeps (List.length_filter_le _ _) fun h e he => h e (List.mem_of_mem_filter he)

theorem setCrowded_keeps (s : State) : Keeps s (setCrowded s) := keeps_of_gather fun h => { h with }

theorem afterAcceptance_within {p : Params} {e : Entry} {s : State} (h : GatherWithin s.gather) :
    (afterAcceptance p e s).length ≤ s.gather.entries.length ∧ ∀ x ∈ afterAcceptance p e s, EntryBounded x := by
  unfold afterAcceptance
  split
  · refine ⟨(List.length_map _).le, fun x hx => ?_⟩
    obtain ⟨y, hy, rfl⟩ := List.mem_map.mp hx
    split
    · rename_i heq
      exact markerOf_bounded (heq ▸ h.passes y hy)
    · exact h.passes y hy
  · exact ⟨List.length_erase_le, fun x hx => h.passes x (List.mem_of_mem_erase hx)⟩

theorem acceptClosing_keeps (p : Params) (s : State) : Keeps s (acceptClosing p s) := by
  obtain ⟨e, hl, he, h⟩ | ⟨-, h⟩ := acceptClosing_cases p s <;> rw [h]
  · refine keeps_of_gather fun hg => ?_
    obtain ⟨hlen, hb⟩ := afterAcceptance_within (p := p) (e := e) hg
    refine ⟨hlen.trans hg.entries, hb, ?_, fun x hx => ?_, hg.filter⟩
    · rw [List.length_append]
      exact hl
    · rcases List.mem_append.mp hx with hx | hx
      · exact hg.localHits x hx
      · rw [List.mem_singleton.mp hx]
        exact (hg.passes e (oldestClosing_mem _ e he).1).hitCount
  · exact .refl s

theorem becomeClosing_keeps (p : Params) (c : CloseCause) (k : PassKey) (n : Option Nat) (s : State) :
    Keeps s (becomeClosing p c k n s) := by
  refine Keeps.trans (keeps_of_gather fun h => ?_) (acceptClosing_keeps p _)
  exact ⟨(length_updateLive k _ _).trans_le h.entries, updateLive_bounded (fun _ => closedEntry_bounded) h.passes, h.localQueue,
    h.localHits, h.filter⟩

theorem closePass_keeps (p : Params) (c : CloseCause) (k : PassKey) (s : State) : Keeps s (closePass p c k s) := by
  unfold closePass
  split
  · split
    · exact dropLive_keeps k s
    · exact becomeClosing_keeps p c k none s
  · have hd := drawNumber_keeps s
    split
    · rename_i t ht
      rw [ht] at hd
      exact hd.trans (dropLive_keeps k t)
    · rename_i n t ht
      rw [ht] at hd
      exact hd.trans (becomeClosing_keeps p c k (some n) t)

theorem closePasses_keeps (p : Params) (c : CloseCause) (ks : List PassKey) (s : State) : Keeps s (closePasses p c ks s) := by
  induction ks generalizing s with
  | nil => exact .refl s
  | cons k ks ih => exact (closePass_keeps p c k s).trans (ih _)

theorem blankGroup_keeps (p : Params) (g : LineGroup) (s : State) : Keeps s (blankGroup p g s) :=
  (closePasses_keeps p .interrupted _ s).trans
    (setEntries_keeps (List.length_filter_le _ _) fun h e he => h e (List.mem_of_mem_filter he))

theorem haltGatherer_keeps (p : Params) (s : State) : Keeps s (haltGatherer p s) := by
  refine (closePasses_keeps p .interrupted _ s).trans (setEntries_keeps ?_ fun h e he => ?_)
  · exact (List.length_map _).trans_le (List.length_filter_le _ _)
  · obtain ⟨d, hd, rfl⟩ := List.mem_map.mp he
    exact entryBounded_of (e := d) (.inl rfl) rfl (h d (List.mem_of_mem_filter hd))

theorem takeSilence_keeps (p : Params) (k : PassKey) (s : State) : Keeps s (takeSilence p k s) := by
  unfold takeSilence
  split
  · exact .refl s
  · split
    · exact closePass_keeps p .silence k s
    · exact dropLive_keeps k s

theorem makeEntry_keeps (p : Params) (k : PassKey) (h : Hit) (s : State) : Keeps s (makeEntry p k h s) := by
  unfold makeEntry
  split
  · rename_i hl
    have hk : Keeps s (setEntries (s.gather.entries ++ [newEntry p k h]) s) := by
      refine keeps_of_gather fun hg => ⟨?_, fun e he => ?_, hg.localQueue, hg.localHits, hg.filter⟩
      · rw [List.length_append]
        exact hl
      · rcases List.mem_append.mp he with he | he
        · exact hg.passes e he
        · exact List.mem_singleton.mp he ▸ newEntry_bounded p k h
    dsimp only
    split
    · exact hk.trans (takeSilence_keeps p k _)
    · exact hk
  · exact .refl s

theorem fullTable_keeps (p : Params) (k : PassKey) (h : Hit) (s : State) : Keeps s (fullTable p k h s) := by
  unfold fullTable
  split
  · exact setCrowded_keeps s
  · split
    · exact setCrowded_keeps s
    · split
      · exact (dropLive_keeps _ s).trans (makeEntry_keeps p k h _)
      · split
        · exact (closePass_keeps p .early _ s).trans (makeEntry_keeps p k h _)
        · exact setCrowded_keeps s

theorem takeHit_keeps (p : Params) (h : Hit) (s : State) : Keeps s (takeHit p h s) := by
  unfold takeHit
  dsimp only
  split
  · split
    · split
      · exact updateLive_keeps _ fun _ => joinHit_bounded
      · exact updateLive_keeps _ fun _ => refreshMarker_bounded
    · split
      · exact makeEntry_keeps p _ h s
      · exact fullTable_keeps p _ h s
  · exact .refl s

/-- The held hits change, and the guards stay. -/
theorem keeps_of_held {s : State} (hs : List Hit) : Keeps s { s with channels := { s.channels with held := hs } } :=
  ⟨rfl, guardsSound_of_eq rfl rfl, peersSound_of_eq rfl, lineKept_of_line rfl, logSound_of_eq rfl,
    attnSound_of_eq rfl rfl rfl rfl rfl, id, id, id⟩

theorem deliverHit_keeps (p : Params) (h : Hit) (s : State) : Keeps s (deliverHit p h s) := by
  unfold deliverHit
  dsimp only
  split
  · exact (keeps_of_held _).trans (takeHit_keeps p h _)
  · exact keeps_of_held _

theorem tripGuard_keeps {p : Params} {ch : Channel} {s : State} (hon : channelOn s ch = true)
    (hw : (guardOf s ch).state = .watching) : Keeps s (tripGuard p ch s) := by
  have ht : Keeps s (offerRecord (guardRecord p ch .trip s) (setGuard ch (trippedGuard s.now (guardOf s ch)) s)) :=
    (setGuard_keeps hon (trippedGuard_sound hw)).trans (offerRecord_keeps _ _)
  unfold tripGuard
  dsimp only
  split
  · exact ht.trans (blankGroup_keeps p _ _)
  · exact ht

theorem reopen_keeps {ch : Channel} {s : State} {b : RecordBody} (hon : channelOn s ch = true)
    (hw : (guardOf s ch).state ≠ .watching) : Keeps s (offerRecord b (setGuard ch (reopenedGuard (guardOf s ch)) s)) :=
  (setGuard_keeps hon (reopenedGuard_sound hw)).trans (offerRecord_keeps _ _)

/-! ## The peer records -/

theorem setPeer_keeps {s : State} {k : Fin 31} {r : PeerRecord} (hr : PeerSound (peerOf s k) → PeerSound r) :
    Keeps s (setPeer k r s) := by
  refine ⟨rfl, guardsSound_of_eq rfl rfl, fun h j => ?_, lineKept_of_line rfl, logSound_of_eq rfl,
    attnSound_of_eq rfl rfl rfl rfl rfl, id, id, id⟩
  by_cases hj : j = k
  · subst hj
    rw [peerOf_setPeer_same]
    exact hr (h j)
  · rw [peerOf_setPeer_other _ _ _ _ hj]
    exact h j

/-- Position and status are no part of what is sound. -/
theorem peerSound_of_eq {r q : PeerRecord} (hq : q = { r with position := q.position, status := q.status, lastHeard := q.lastHeard })
    (h : PeerSound r) : PeerSound q := by
  rw [hq]
  exact ⟨h.offset, h.stale, h.unheard, h.acquiring, h.locked, h.count, h.rejections, h.noRejections⟩

theorem stalePeer_sound {r : PeerRecord} (hc : canGoStale r.clock = true) (h : PeerSound r) : PeerSound (stalePeer r) where
  offset := h.offset.trans (by cases hr : r.clock <;> rw [hr] at hc <;> first | rfl | cases hc)
  stale := rfl
  unheard := nofun
  acquiring := nofun
  locked := nofun
  count := h.count
  rejections := Nat.zero_le _
  noRejections _ := rfl

theorem acquired_sound (sample : Int) (r : PeerRecord) (t : Time) : PeerSound (heardAt t (acquirePeer sample r)) where
  offset := rfl
  stale := rfl
  unheard := nofun
  acquiring _ := ⟨Nat.le_refl 1, Nat.succ_le_succ (Nat.zero_le 2)⟩
  locked := nofun
  count := Nat.succ_le_succ (Nat.zero_le 65534)
  rejections := Nat.zero_le _
  noRejections _ := rfl

/-- A record filtered in ACQUIRING counts on to 3 and is LOCKED at 4. -/
theorem acquiringSample_sound {sample : Int} {r : PeerRecord} (t : Time) (hc : r.clock = .acquiring) (h : PeerSound r) :
    PeerSound (heardAt t (acquiringSample sample r).1) := by
  obtain ⟨h1, h3⟩ := h.acquiring hc
  have hu : (filterPeer sample r).count = r.count + 1 := (countUp_eq _ h.count).trans (by omega)
  unfold acquiringSample
  dsimp only
  split
  · rename_i h4
    exact ⟨rfl, rfl, nofun, nofun, fun _ => h4, countUp_le _ h.count, Nat.zero_le _, fun hn => absurd rfl hn⟩
  · rename_i h4
    have hcf : (filterPeer sample r).clock = .acquiring := hc
    exact ⟨by simp [heardAt, hc, filterPeer], by simp [heardAt, hc, filterPeer, canGoStale], fun e => absurd (hcf.symm.trans e) nofun,
      fun _ => ⟨by simp only [heardAt, hu]; omega, by simp only [heardAt]; omega⟩, fun e => absurd (hcf.symm.trans e) nofun,
      countUp_le _ h.count, Nat.zero_le _, fun _ => rfl⟩

/-- A record in LOCKED stays locked, filtered or rejecting twice at most, or is acquired anew. -/
theorem lockedSample_sound {sample : Int} {r : PeerRecord} (t : Time) (hc : r.clock = .locked) (h : PeerSound r) :
    PeerSound (heardAt t (lockedSample sample r).1) := by
  have h4 := h.locked hc
  have ho : r.offset.isSome = true := by rw [h.offset, hc]; rfl
  unfold lockedSample
  split
  · refine ⟨?_, ?_, fun e => absurd (hc.symm.trans e) nofun, fun e => absurd (hc.symm.trans e) nofun, fun _ => ?_,
      countUp_le _ h.count, Nat.zero_le _, fun _ => rfl⟩
    · show true = (r.clock != .unheard)
      rw [hc]; rfl
    · show true = canGoStale r.clock
      rw [hc]; rfl
    · show 4 ≤ countUp r.count
      rw [countUp_eq _ h.count]; omega
  · split
    · exact acquired_sound _ _ _
    · rename_i h3
      refine ⟨?_, ?_, fun e => absurd (hc.symm.trans e) nofun, fun e => absurd (hc.symm.trans e) nofun, fun _ => h4,
        h.count, ?_, fun hn => absurd hc hn⟩
      · exact h.offset
      · show true = canGoStale r.clock
        rw [hc]; rfl
      · show r.rejections + 1 ≤ 2
        omega

theorem sampleMove_sound {sample : Int} {r : PeerRecord} (t : Time) (h : PeerSound r) :
    PeerSound (heardAt t (sampleMove sample r).1) := by
  unfold sampleMove
  cases hc : r.clock with
  | unheard => exact acquired_sound _ _ _
  | stale => exact acquired_sound _ _ _
  | acquiring => exact acquiringSample_sound t hc h
  | locked => exact lockedSample_sound t hc h

theorem reportPeer_keeps (p : Params) (n : Nat) (old new : PeerRecord) (c : PeerCause) (t : Time) (s : State) :
    Keeps s (reportPeer p n old new c t s) := by
  unfold reportPeer
  split
  · exact offerRecord_keeps _ _
  · exact .refl s

theorem takeTime_keeps (p : Params) (n : Nat) (send : Time) (pos : Nat) (receive : Time) (s : State) :
    Keeps s (takeTime p n send pos receive s) := by
  unfold takeTime
  split
  · exact .refl s
  · rename_i k _
    have hplaced : PeerSound (peerOf s k) → PeerSound { peerOf s k with position := some (peerPosition pos) } :=
      peerSound_of_eq rfl
    dsimp only
    split
    · split
      · exact setPeer_keeps fun h => sampleMove_sound receive (hplaced h)
      · exact (setPeer_keeps fun h => sampleMove_sound receive (hplaced h)).trans (reportPeer_keeps _ _ _ _ _ _ _)
    · exact setPeer_keeps hplaced

theorem takeStatus_keeps (n : Nat) (f : StatusFields) (receive : Time) (s : State) : Keeps s (takeStatus n f receive s) := by
  unfold takeStatus
  split
  · exact .refl s
  · exact setPeer_keeps (peerSound_of_eq rfl)

theorem goStale_keeps {p : Params} {n : Nat} {k : Fin 31} {s : State} (hc : canGoStale (peerOf s k).clock = true) :
    Keeps s (goStale p n k s) := by
  have ht : Keeps s (reportPeer p n (peerOf s k) (stalePeer (peerOf s k)) .silence s.now (setPeer k (stalePeer (peerOf s k)) s)) :=
    (setPeer_keeps (stalePeer_sound hc)).trans (reportPeer_keeps _ _ _ _ _ _ _)
  unfold goStale
  dsimp only
  split
  · exact ht.trans (offerFault_keeps _ _ _)
  · exact ht

/-! ## Station time -/

/-- Station time and the time of the latest reset are no part of any invariant. -/
theorem keeps_of_time {s : State} (now : Time) (r : Int) :
    Keeps s { s with now := now, channels := { s.channels with resetAt := r } } :=
  ⟨rfl, guardsSound_of_eq rfl rfl, peersSound_of_eq rfl, lineKept_of_line rfl, logSound_of_eq rfl,
    attnSound_of_eq rfl rfl rfl rfl rfl, id, id, id⟩

theorem wrapClock_keeps (s : State) : Keeps s (wrapClock s) := (keeps_of_time 0 _).trans (offerFault_keeps _ _ _)

theorem tick_keeps (s : State) : Keeps s (tick s) := by
  unfold tick
  split
  · exact wrapClock_keeps s
  · exact keeps_of_time (s.now + 1) s.channels.resetAt

end Sys2Proof.Machine
end

section
/-! PROOFS. What every command keeps: each row answers a next state, in which the invariants of the blocks and the capacities hold. -/

namespace Sys2Proof.Machine

/-! ## The report port -/

theorem respond_keeps (r : Response) (s : State) : Keeps s (respond r s) := keeps_of_port s.report.port _

theorem takeHeld_keeps (o : Option Response) (cmd : PortCommand) (s : State) : Keeps s (takeHeld o cmd s) := by
  obtain ⟨port, tr, h⟩ := takeHeld_frame o cmd s
  rw [h]
  exact keeps_of_port port tr

theorem setPort_keeps (x : PortState) (s : State) : Keeps s (setPort x s) := keeps_of_port x s.report.transaction

theorem answer_keeps (r : Response) (c : Bool) (n : Nat) (s : State) : Keeps s (answer r c n s) := keeps_of_port s.report.port _

theorem deliver_keeps (x : Transaction) (s : State) : Keeps s (deliver x s) :=
  keeps_of_report rfl (fun _ => judgeAttn_sound _) fun h => (List.length_drop ▸ Nat.sub_le _ _ : (s.report.fifo.drop x.takes).length ≤ _).trans h

theorem readRecords_keeps (count : Nat) (s : State) : Keeps s (readRecords count s) := by
  unfold readRecords
  split
  · split
    · exact respond_keeps _ s
    · exact (setPort_keeps _ s).trans (respond_keeps _ _)
  · exact answer_keeps _ _ _ s

theorem judgeAttn_keeps (s : State) : Keeps s (judgeAttn s) := keeps_of_report rfl (fun _ => judgeAttn_sound s) id

theorem unlockOverrun_keeps (s : State) : Keeps s (judgeAttn { s with report := { s.report with overrun := none } }) :=
  keeps_of_report rfl (fun _ => judgeAttn_sound _) id

theorem unlockFault_keeps (s : State) : Keeps s (judgeAttn { s with station := { s.station with fault := none } }) :=
  ⟨rfl, guardsSound_of_eq rfl rfl, peersSound_of_eq rfl, lineKept_of_line rfl, logSound_of_eq rfl, fun _ => judgeAttn_sound _,
    id, id, id⟩

/-! ## Slots given to transponders -/

theorem allocatedSlot_lapCount (t : Nat) (now : Time) : (allocatedSlot t now).lapCount = 0 := rfl

theorem setFreshSlot_keeps {i : SlotNo} {x : Slot} (s : State) (hx : x.lapCount = 0) : Keeps s (setSlot i x s) :=
  keeps_of_table (setSlot_tableWithin fun _ => hx ▸ Nat.zero_le _)

theorem releaseSlots_keeps (gone : SlotNo → Bool) (s : State) : Keeps s (releaseSlots gone s) :=
  keeps_of_log rfl (releaseSlots_logSound gone)

theorem reclaimFor_keeps (t : Nat) (i : SlotNo) (s : State) : Keeps s (reclaimFor t i s) := by
  have hr : Keeps s (setSlot i (allocatedSlot t s.now) (releaseSlots (fun j => j == i) s)) :=
    (releaseSlots_keeps _ s).trans (setFreshSlot_keeps _ rfl)
  exact hr.trans (keeps_of_table fun h => { h with reclaimed := countUp_le _ h.reclaimed })

theorem giveSlot_keeps {t : Nat} {i : SlotNo} {s r : State} (h : giveSlot t s = some (i, r)) : Keeps s r := by
  obtain ⟨-, rfl⟩ | ⟨-, -, rfl⟩ := giveSlot_cases t s r i h
  · exact setFreshSlot_keeps s rfl
  · exact reclaimFor_keeps t i s

theorem slotToProcess_keeps {p : Params} {t : Nat} {i : SlotNo} {s r : State} (h : slotToProcess p t s = some (i, r)) :
    Keeps s r := by
  obtain ⟨-, rfl⟩ | ⟨-, -, hg⟩ := slotToProcess_cases p t s r i h
  · exact .refl r
  · exact giveSlot_keeps hg

/-! ## Passings and corrections -/

theorem writeLog_keeps {n : Nat} {e : LogEntry} (s : State) (he : e.number = n) : Keeps s (writeLog n e s) :=
  keeps_of_log rfl (writeLog_logSound he)

theorem offerPassing_keeps (n transponder : Nat) (instant : Time) (w : Flags) (s : State) :
    Keeps s (offerPassing n transponder instant w s) := (offerPassing_moves (arms := True) (i := 0) .refl).keeps

theorem countUntracked_keeps (s : State) :
    Keeps s { s with table := { s.table with untracked := countUp s.table.untracked } } :=
  keeps_of_table fun h => { h with untracked := countUp_le _ h.untracked }

theorem processUntracked_keeps (x : NewPassing) (s : State) : Keeps s (processUntracked x s) := by
  have hw : Keeps s (writeLog x.number (entryOf x none (addFlag x.flags .untracked) s.now) s) := writeLog_keeps s rfl
  have hu := hw.trans (countUntracked_keeps _)
  exact (hu.trans (offerRecord_keeps (passingRec x none 0 none (addFlag x.flags .untracked)) _)).trans (offerPassing_keeps _ _ _ _ _)

theorem processInSlot_keeps (p : Params) (i : SlotNo) (x : NewPassing) (s : State) : Keeps s (processInSlot p i x s) :=
  (processInSlot_moves p (arms := True) .refl).keeps

theorem processPassing_keeps (p : Params) (x : NewPassing) (s : State) : Keeps s (processPassing p x s) := by
  unfold processPassing
  split
  · rename_i i t h
    exact (slotToProcess_keeps h).trans (processInSlot_keeps p i x t)
  · exact processUntracked_keeps x s

theorem takeMark_keeps (p : Params) (m : LocalItem) (s : State) : Keeps s (takeMark p m s) := by
  unfold takeMark
  split
  · rename_i ha
    split
    · exact .refl s
    · exact (takeTrapItem_moves p (arms := True) .refl (isRunning_of_trapActive p ha)).keeps
  · exact .refl s

theorem takeLocal_keeps (p : Params) (x : LocalItem) (s : State) : Keeps s (takeLocal p x s) := by
  unfold takeLocal
  split
  · exact processPassing_keeps p _ s
  · exact takeMark_keeps p x s

theorem makeForecast_keeps (p : Params) (i : SlotNo) (w : Watch) (t : Time) (s : State) : Keeps s (makeForecast p i w t s) := by
  have hd := drawNumber_keeps s
  unfold makeForecast
  split
  · rename_i u hu
    rw [hu] at hd
    exact hd
  · rename_i n u hu
    have hp : SlotMoves True i u (processInSlot p i (forecastPassing u i w n t) u) := processInSlot_moves p .refl
    rw [hu] at hd
    have hh : SlotMoves True i u (halveConfidence i (processInSlot p i (forecastPassing u i w n t) u)) :=
      setSlot_moves hp (slotKept_of_eq rfl rfl rfl rfl rfl)
    exact hd.trans hh.keeps

theorem expireWatch_keeps (p : Params) (i : SlotNo) (s : State) : Keeps s (expireWatch p i s) := by
  have hr : Keeps s (removeWatch i s) := (removeWatch_moves (arms := True) .refl).keeps
  unfold expireWatch
  split
  · exact .refl s
  · dsimp only
    split
    · exact hr
    · split
      · exact hr
      · split
        · exact hr.trans (makeForecast_keeps _ _ _ _ _)
        · exact hr

theorem takeFeederPassing_keeps (p : Params) (t : Nat) (f : FeederRecord) (s : State) : Keeps s (takeFeederPassing p t f s) := by
  unfold takeFeederPassing
  split
  · exact .refl s
  · split
    · rename_i i u h
      exact (slotToProcess_keeps h).trans (feederInSlot_moves p (touchSlot_moves .refl)).keeps
    · unfold dropFeeder
      split
      · exact keeps_of_table fun h => { h with dropped := countUp_le _ h.dropped }
      · exact .refl s

theorem takeFeederRevision_keeps (p : Params) (tag : Tag) (t : Nat) (r : FeederRevision) (s : State) :
    Keeps s (takeFeederRevision p tag t r s) := by
  unfold takeFeederRevision
  split
  · exact .refl s
  · exact (reviseInSlot_moves p .refl).keeps

theorem takeIntake_keeps (p : Params) (x : IntakeItem) (s : State) : Keeps s (takeIntake p x s) := by
  unfold takeIntake
  split
  · exact takeFeederPassing_keeps _ _ _ _
  · exact takeFeederRevision_keeps _ _ _ _ _
  · exact takeFeederRevision_keeps _ _ _ _ _

theorem grantWithdraw_keeps (p : Params) (n : Nat) (s : State) : Keeps s (grantWithdraw p n s).2 := by
  unfold grantWithdraw
  split
  · exact .refl s
  · exact .refl s
  · split
    · exact .refl s
    · dsimp only
      split
      · exact (withdrawOutside_moves (arms := True) (i := 0) .refl).keeps
      · exact (withdrawInSlot_moves p (withdrawOutside_moves (arms := True) .refl)).keeps

theorem grantRetime_keeps (p : Params) (n : Nat) (t : Time) (s : State) : Keeps s (grantRetime p n t s).2 := by
  unfold grantRetime
  split
  · exact .refl s
  · exact .refl s
  · split
    · exact .refl s
    · split
      · exact .refl s
      · split
        · exact .refl s
        · exact (retimePassing_moves p (arms := True) .refl).keeps

theorem grantMark_keeps (p : Params) (t : Nat) (u : Time) (s : State) : Keeps s (grantMark p t u s).2 := by
  have hd := drawNumber_keeps s
  unfold grantMark
  split
  · exact .refl s
  · split
    · rename_i r h
      rw [h] at hd
      exact hd
    · rename_i n r h
      rw [h] at hd
      exact hd.trans (processPassing_keeps _ _ _)

/-! ## Roster and session -/

theorem grantRosterPut_keeps (t c : Nat) (s : State) : Keeps s (grantRosterPut t c s).2 := by
  unfold grantRosterPut
  split
  · split
    · exact .refl s
    · exact keeps_of_table (setSlot_tableWithin id)
  · split
    · exact setFreshSlot_keeps s rfl
    · exact .refl s

theorem replicate_lapCount (i : SlotNo) : (Vector.replicate 128 Slot.empty)[i].lapCount = 0 := by
  simp [Slot.empty]

theorem clearRoster_keeps (s : State) : Keeps s (clearRoster s) :=
  (releaseSlots_keeps (fun _ => true) s).trans <| keeps_of_table fun h =>
    { h with
      pendingOnce := List.nodup_nil, settleOnce := List.nodup_nil, watchOnce := List.nodup_nil, trapOnce := List.nodup_nil
      settle := Nat.zero_le _, watch := Nat.zero_le _
      laps := fun i => (replicate_lapCount i).trans_le (Nat.zero_le _) }

theorem sessionSlot_lapCount (x : Slot) : (sessionSlot x).lapCount = 0 := by
  unfold sessionSlot
  split <;> rfl

theorem sessionTable_within (b : TableBlock) : TableWithin (sessionTable b) where
  pendingOnce := List.nodup_nil
  settleOnce := List.nodup_nil
  watchOnce := List.nodup_nil
  trapOnce := List.nodup_nil
  settle := Nat.zero_le _
  watch := Nat.zero_le _
  bypass r := by cases r <;> exact Nat.zero_le _
  laps i := by
    show ((mapSlots sessionSlot b.slots)[i]).lapCount ≤ _
    rw [mapSlots_get, sessionSlot_lapCount]
    exact Nat.zero_le _
  reclaimed := Nat.zero_le _
  untracked := Nat.zero_le _
  dropped := Nat.zero_le _

theorem rosterIds_length (v : Vector Slot 128) : (rosterIds v).length ≤ 128 :=
  (List.length_filterMap_le _ _).trans (by simp)

theorem initialLog_sound {s : State} (h : s.log = .initial) : LogSound s where
  counter n hn := by
    rw [h] at hn
    cases hn
    exact ⟨Nat.le_refl 1, by simp [Config.lastNumber]⟩
  places q hq := by
    rw [h] at hq
    cases hq
  rising := by
    rw [h]
    exact .nil

theorem startClearing_keeps (s : State) : Keeps s (startClearing s) where
  pending := by
    show (settleLine _).pending = _
    rw [(settleLine_frame _).1]
  guards := guardsSound_of_eq (by show (settleLine _).channels.guards = _; rw [(settleLine_frame _).1])
    (by show (settleLine _).station.conf = _; rw [(settleLine_frame _).1])
  peers := peersSound_of_eq (by show (settleLine _).clock.peers = _; rw [(settleLine_frame _).1])
  line := (clearedLine_kept rfl).trans (lineKept_of_line rfl)
  log _ := initialLog_sound (by show (settleLine _).log = _; rw [(settleLine_frame _).1])
  attn _ := judgeAttn_sound _
  gather h := by
    show GatherWithin (settleLine _).gather
    rw [(settleLine_frame _).1]
    exact ⟨Nat.zero_le _, nofun, Nat.zero_le _, nofun, rosterIds_length _⟩
  table _ := by
    show TableWithin (settleLine _).table
    rw [(settleLine_frame _).1]
    exact sessionTable_within s.table
  fifo _ := by
    show (settleLine _).report.fifo.length ≤ _
    rw [(settleLine_frame _).1]
    exact Nat.zero_le _

theorem finishHalting_keeps (s : State) : Keeps s (finishHalting s) := by
  unfold finishHalting
  split
  · exact keeps_of_station rfl rfl
  · exact .refl s

theorem issueSector_keeps (p : Params) (r : SectorRec) (s : State) : Keeps s (issueSector p r s) :=
  (issueSector_moves p (arms := True) .refl rfl).keeps

theorem foldl_keeps {α : Type} {f : State → α → State} (h : ∀ u e, Keeps u (f u e)) (l : List α) (s : State) :
    Keeps s (l.foldl f s) := by
  induction l generalizing s with
  | nil => exact .refl s
  | cons e l ih => exact (h s e).trans (ih _)

theorem haltPending_keeps (p : Params) (s : State) : Keeps s (haltPending p s) :=
  (foldl_keeps (fun u e => issueSector_keeps p (pendingEndRec u e .halted) u) _ s).trans
    (keeps_of_table fun h => { h with pendingOnce := List.nodup_nil })

theorem haltSettle_keeps (p : Params) (s : State) : Keeps s (haltSettle p s) :=
  (foldl_keeps (fun u e => issueSector_keeps p (earlyRec p u e) u) _ s).trans
    (keeps_of_table fun h => { h with settleOnce := List.nodup_nil, settle := Nat.zero_le _ })

theorem haltSession_keeps (p : Params) (s : State) : Keeps s (haltSession p s) := by
  have hg : Keeps s (haltGatherer p (enterHalting s)) :=
    Keeps.trans (t := enterHalting s) (keeps_of_station rfl rfl) (haltGatherer_keeps p _)
  have ht : Keeps s (dropTraps (haltGatherer p (enterHalting s))) :=
    hg.trans (keeps_of_table fun h => { h with trapOnce := List.nodup_nil })
  have hs := (ht.trans (haltPending_keeps p _)).trans (haltSettle_keeps p _)
  have hw : Keeps s (dropWatches (haltSettle p (haltPending p (dropTraps (haltGatherer p (enterHalting s)))))) :=
    hs.trans (keeps_of_table fun h => { h with watchOnce := List.nodup_nil, watch := Nat.zero_le _ })
  have hi : Keeps s (dropIntake (dropWatches (haltSettle p (haltPending p (dropTraps (haltGatherer p (enterHalting s))))))) :=
    hw.trans (keeps_of_line rfl (intakeTail_kept (Nat.zero_le _)))
  exact hi.trans (finishHalting_keeps _)

/-! ## The grants -/

theorem passedOver_le {s : State} (g r : Requester) : passedOver s g r ≤ 15 := by
  unfold passedOver
  split
  · exact Nat.zero_le _
  · split
    · exact Nat.min_le_left _ _
    · exact Nat.zero_le _

theorem beginGrant_keeps (r : Requester) (s : State) : Keeps s (beginGrant r s) :=
  keeps_of_table fun h => { h with bypass := fun q => bypassOf_beginGrant r q s ▸ passedOver_le r q }

theorem countIfWaiting_le (s : State) (r : Requester) : countIfWaiting s r ≤ bypassOf s.table.bypass r := by
  unfold countIfWaiting
  split
  · exact Nat.le_refl _
  · exact Nat.zero_le _

theorem settleCounts_keeps (s : State) : Keeps s (settleCounts s) :=
  keeps_of_table fun h => { h with bypass := fun q => bypassOf_settleCounts q s ▸ (countIfWaiting_le s q).trans (h.bypass q) }

theorem endGrant_keeps (s t : State) : Keeps t (endGrant s t) := by
  obtain ⟨-, -, h⟩ | ⟨-, h⟩ := endGrant_cases s t <;> rw [h]
  · exact .refl t
  · exact settleCounts_keeps t

theorem grantTo_keeps (r : Requester) {work : Params → State → State} (hw : ∀ p s, Keeps s (work p s)) (s : State) :
    Keeps s (grantTo r work s) := by
  obtain ⟨p, -, -, -, h⟩ | h := grantTo_cases r work s <;> rw [h]
  · exact ((beginGrant_keeps r s).trans (hw p _)).trans (endGrant_keeps s _)
  · exact .refl s

theorem popLocal_keeps (p : Params) (s : State) : Keeps s (popLocal p s) := by
  refine Keeps.trans (keeps_of_gather fun h => ?_) ((acceptClosing_keeps p _).trans (finishHalting_keeps _))
  exact ⟨h.entries, h.passes, (List.length_tail ▸ Nat.sub_le _ _ : s.gather.queue.tail.length ≤ _).trans h.localQueue,
    fun x hx => h.localHits x (List.mem_of_mem_tail hx), h.filter⟩

theorem localWork_keeps (p : Params) (s : State) : Keeps s (localWork p s) := by
  unfold localWork
  split
  · exact .refl s
  · exact (popLocal_keeps p s).trans (takeLocal_keeps p _ _)

theorem lineWork_keeps (p : Params) (s : State) : Keeps s (lineWork p s) := by
  unfold lineWork
  split
  · exact .refl s
  · rename_i x xs h
    exact (keeps_of_line rfl (intakeTail_kept (h ▸ Nat.le_succ _))).trans (takeIntake_keeps p x _)

theorem takeDue_keeps (p : Params) (x : DueItem) (s : State) : Keeps s (takeDue p x s) := by
  unfold takeDue
  cases x.kind with
  | pending => exact (expirePending_moves p (arms := True) .refl).keeps
  | settle => exact (expireSettle_moves p (arms := True) .refl).keeps
  | watch => exact expireWatch_keeps p _ s
  | trap => exact (expireTrap_moves (arms := True) .refl).keeps

theorem timerWork_keeps (p : Params) (s : State) : Keeps s (timerWork p s) := by
  unfold timerWork
  split
  · exact .refl s
  · exact takeDue_keeps p _ s

theorem carryOut_keeps (p : Params) (cmd : PortCommand) (s : State) : Keeps s (carryOut p cmd s).2 := by
  cases cmd with
  | slotRead i => exact .refl s
  | snapshot first count => exact .refl s
  | rosterPut t c => exact grantRosterPut_keeps t c s
  | rosterClear => exact clearRoster_keeps s
  | withdraw n => exact grantWithdraw_keeps p n s
  | retime n t => exact grantRetime_keeps p n t s
  | mark t u => exact grantMark_keeps p t u s
  | startSession => exact startClearing_keeps s
  | halt =>
    show Keeps s (grantHalt p s).2
    unfold grantHalt
    split
    · exact haltSession_keeps p s
    · exact .refl s

theorem portWork_keeps (p : Params) (s : State) : Keeps s (portWork p s) := by
  unfold portWork
  split
  · exact .refl s
  · exact (carryOut_keeps p _ s).trans (setPort_keeps _ _)

/-! ## Station control -/

theorem configuredGuard_sound {p : Params} {levels : PerChannel Nat} {s : State} {ch : Channel} (h : GuardSound (guardOf s ch)) :
    GuardSound (configuredGuard p levels s ch) := by
  unfold configuredGuard
  split
  · exact sampledGuard_sound _ _ _
  · exact h

theorem guardOf_takeConfig (asked : Params) (levels : PerChannel Nat) (s : State) (ch : Channel) :
    guardOf (takeConfig asked levels s) ch = configuredGuard (clampParams asked) levels s ch := by
  cases ch <;> rfl

/-- The configuration taken in UNCONFIGURED, where every guard is inactive. -/
theorem takeConfig_guards {asked : Params} {levels : PerChannel Nat} {s : State} (hc : s.station.conf = none) (h : GuardsSound s) :
    GuardsSound (takeConfig asked levels s) := by
  constructor <;> intro ch
  · rw [guardOf_takeConfig]
    exact configuredGuard_sound (h.sound ch)
  · intro hoff
    have hno : (channelsOf (clampParams asked).arrangement).contains ch = false := hoff
    rw [guardOf_takeConfig, configuredGuard, hno]
    exact h.off ch (by unfold channelOn; rw [hc])

theorem scheduleStatus_keeps (s : State) : Keeps s (scheduleStatus s) := keeps_of_schedules rfl rfl

/-! ## Moves of the line unit -/

/-- What a move of the line unit leaves as it is: every block but the transmit queue and the line state, the TIME interval and the
marks of the log; the intake queue and the peers stay. -/
structure LineUnit (s t : State) : Prop where
  pending : t.pending = s.pending
  now : t.now = s.now
  station : t.station = s.station
  channels : t.channels = s.channels
  gather : t.gather = s.gather
  table : t.table = s.table
  report : t.report = s.report
  peers : t.clock.peers = s.clock.peers
  intake : t.line.intake = s.line.intake
  log : LogSound s → LogSound t

theorem LineUnit.refl (s : State) : LineUnit s s := ⟨rfl, rfl, rfl, rfl, rfl, rfl, rfl, rfl, rfl, id⟩

theorem LineUnit.trans {s t u : State} (h : LineUnit s t) (k : LineUnit t u) : LineUnit s u :=
  ⟨k.pending.trans h.pending, k.now.trans h.now, k.station.trans h.station, k.channels.trans h.channels, k.gather.trans h.gather,
    k.table.trans h.table, k.report.trans h.report, k.peers.trans h.peers, k.intake.trans h.intake, k.log ∘ h.log⟩

/-- A move on line and log alone. -/
theorem lineUnit_of_line {s t : State} (h : t = { s with line := t.line, log := t.log }) (hi : t.line.intake = s.line.intake)
    (hl : LogSound s → LogSound t) : LineUnit s t := by
  refine ⟨?_, ?_, ?_, ?_, ?_, ?_, ?_, ?_, hi, hl⟩ <;> rw [h]

theorem settleLine_unit (s : State) : LineUnit s (settleLine s) := by
  have h := (settleLine_frame s).1
  exact lineUnit_of_line (h.trans (by rw [h])) (settleLine_intake s) (logSound_of_eq (by rw [h]))

theorem resumeLine_unit (s : State) : LineUnit s (resumeLine s) := by
  have h := (resumeLine_frame s).1
  exact lineUnit_of_line (h.trans (by rw [h])) (resumeLine_intake s) (logSound_of_eq (by rw [h]))

theorem setQueue_unit (q : List Notice) (s : State) : LineUnit s (setQueue q s) := lineUnit_of_line rfl rfl (logSound_of_eq rfl)

theorem endAttempt_unit (s : State) : LineUnit s (endAttempt s) := lineUnit_of_line rfl rfl (logSound_of_eq rfl)

theorem startTimeTimer_unit (s : State) : LineUnit s (startTimeTimer s) :=
  ⟨rfl, rfl, rfl, rfl, rfl, rfl, rfl, rfl, rfl, logSound_of_eq rfl⟩

theorem pullUnsent_unit (s : State) : LineUnit s (pullUnsent s) := by
  refine lineUnit_of_line (pullUnsent_frame s) ?_ (pullUnsent_marks s).sound
  obtain h | ⟨b, e, -, -, h⟩ := pullUnsent_cases s <;> rw [h]
  exact settleLine_intake _

theorem afterDeparture_unit (n : Notice) (s : State) : LineUnit s (afterDeparture n s) := by
  unfold afterDeparture
  split
  · exact startTimeTimer_unit s
  · exact .refl s
  · split
    · exact .refl s
    · split
      · exact setQueue_unit _ s
      · exact pullUnsent_unit s

theorem completeAttempt_unit (n : Notice) (s : State) : LineUnit s (completeAttempt n s) :=
  ((endAttempt_unit s).trans (setQueue_unit _ _)).trans ((afterDeparture_unit n _).trans (resumeLine_unit _))

theorem enterBackoff_unit (n draw : Nat) (s : State) : LineUnit s (enterBackoff n draw s) := by
  unfold enterBackoff
  split
  · exact resumeLine_unit s
  · exact lineUnit_of_line rfl rfl (logSound_of_eq rfl)

theorem keepCollided_unit (m : Notice) (draw : Nat) (s : State) : LineUnit s (keepCollided m draw s) := by
  unfold keepCollided
  split
  · exact (setQueue_unit _ s).trans (enterBackoff_unit _ _ _)
  · exact lineUnit_of_line rfl rfl (logSound_of_eq rfl)

theorem collide_unit (n : Notice) (draw : Nat) (s : State) : LineUnit s (collide n draw s) := by
  refine (endAttempt_unit s).trans ?_
  unfold collide
  dsimp only
  split
  · unfold collideTimed
    split
    · exact keepCollided_unit _ _ _
    · refine (setQueue_unit (withoutSent (endAttempt s).line.queue) _).trans (LineUnit.trans ?_ (resumeLine_unit _))
      split
      · exact startTimeTimer_unit _
      · exact .refl _
  · unfold collideHigh
    split
    · exact (setQueue_unit _ _).trans (enterBackoff_unit _ _ _)
    · split
      · exact keepCollided_unit _ _ _
      · exact ((setQueue_unit _ _).trans (pullUnsent_unit _)).trans (enterBackoff_unit _ _ _)

theorem beginAttempt_unit (p : Params) (n : Notice) (q : List Notice) (s : State) : LineUnit s (beginAttempt p n q s) :=
  lineUnit_of_line rfl rfl (logSound_of_eq rfl)

theorem dropCarrier_unit (s : State) : LineUnit s (dropCarrier s) := by
  unfold dropCarrier
  dsimp only
  split
  · exact LineUnit.trans (t := { s with line := { s.line with carrierSince := none } })
      (lineUnit_of_line rfl rfl (logSound_of_eq rfl)) (resumeLine_unit _)
  · exact lineUnit_of_line rfl rfl (logSound_of_eq rfl)
  · exact lineUnit_of_line rfl rfl (logSound_of_eq rfl)

theorem offerTime_unit (s : State) : LineUnit s (offerTime s) := by
  unfold offerTime
  split
  · refine LineUnit.trans (t := { s with clock := { s.clock with timeDue := none } }) ?_
      ((setQueue_unit _ _).trans (settleLine_unit _))
    exact ⟨rfl, rfl, rfl, rfl, rfl, rfl, rfl, rfl, rfl, logSound_of_eq rfl⟩
  · exact startTimeTimer_unit s

theorem offerStatus_unit (p : Params) (s : State) : LineUnit s (offerStatus p s) := by
  unfold offerStatus
  split
  · exact setQueue_unit _ s
  · split
    · exact (setQueue_unit _ s).trans (settleLine_unit _)
    · exact .refl s

theorem scheduleStatus_unit (s : State) : LineUnit s (scheduleStatus s) :=
  ⟨rfl, rfl, rfl, rfl, rfl, rfl, rfl, rfl, rfl, logSound_of_eq rfl⟩

/-- A move of the line unit keeps the invariants where it keeps those of the line. -/
theorem LineUnit.keeps {s t : State} (h : LineUnit s t) (hl : LineKept s t) : Keeps s t where
  pending := h.pending
  guards := guardsSound_of_eq (congrArg _ h.channels) (congrArg _ h.station)
  peers := peersSound_of_eq h.peers
  line := hl
  log := h.log
  attn := attnSound_of_eq (congrArg _ h.station) (congrArg _ h.station) (congrArg _ h.report) (congrArg _ h.report)
    (congrArg _ h.report)
  gather hg := h.gather ▸ hg
  table ht := h.table ▸ ht
  fifo hf := h.report ▸ hf

theorem offerTime_keeps (s : State) : Keeps s (offerTime s) := (offerTime_unit s).keeps (offerTime_kept s)

theorem offerStatus_keeps (p : Params) (s : State) : Keeps s (offerStatus p s) := (offerStatus_unit p s).keeps (offerStatus_kept p s)

theorem jamLine_keeps (s : State) : Keeps s (jamLine s) := by
  have hc : LineUnit s (cutAttempt s) := by
    unfold cutAttempt
    split
    · exact endAttempt_unit s
    · exact .refl s
  have hu : LineUnit s { cutAttempt s with line := (jamLine s).line } :=
    hc.trans (lineUnit_of_line rfl rfl (logSound_of_eq rfl))
  exact (hu.keeps ((jamLine_kept s).trans (lineKept_of_line rfl))).trans (offerFault_keeps .lineJammed none _)

/-! ## Station control and resets -/

/-- A configuration taken while the station has none, and what it brings to guards, line and ATTN. -/
theorem configure_keeps {asked : Params} {levels : PerChannel Nat} {s : State} (hc : s.station.conf = none) :
    Keeps s (judgeAttn (startSchedules (clampParams asked) (takeConfig asked levels s))) := by
  have ho : Keeps (takeConfig asked levels s) (judgeAttn (startSchedules (clampParams asked) (takeConfig asked levels s))) :=
    (((offerTime_keeps _).trans (scheduleStatus_keeps _)).trans (offerStatus_keeps _ _)).trans (judgeAttn_keeps _)
  exact
    { pending := ho.pending
      guards := ho.guards ∘ takeConfig_guards hc
      peers := ho.peers ∘ peersSound_of_eq rfl
      line := LineKept.trans (t := takeConfig asked levels s) (lineKept_of_line rfl) ho.line
      log := ho.log ∘ logSound_of_eq rfl
      attn := fun _ => judgeAttn_sound _
      gather := ho.gather
      table := ho.table
      fifo := ho.fifo }

theorem initialPeer_sound : PeerSound PeerRecord.initial :=
  ⟨rfl, rfl, fun _ => rfl, nofun, nofun, Nat.zero_le _, Nat.zero_le _, fun _ => rfl⟩

theorem initialTable_within : TableWithin .initial where
  pendingOnce := List.nodup_nil
  settleOnce := List.nodup_nil
  watchOnce := List.nodup_nil
  trapOnce := List.nodup_nil
  settle := Nat.zero_le _
  watch := Nat.zero_le _
  bypass r := by cases r <;> exact Nat.zero_le _
  laps i := (replicate_lapCount i).trans_le (Nat.zero_le _)
  reclaimed := Nat.zero_le _
  untracked := Nat.zero_le _
  dropped := Nat.zero_le _

/-- A reset: every block has its initial values, but for the time of the reset and what the line shows of carrier and attempts. -/
structure Initial (t : State) : Prop where
  station : t.station = .initial
  guards : t.channels.guards = ChannelBlock.initial.guards
  gather : t.gather = .initial
  clock : t.clock = .initial
  state : t.line.state = .listening
  queue : t.line.queue = []
  intake : t.line.intake = []
  table : t.table = .initial
  log : t.log = .initial
  report : t.report = .initial

theorem Initial.guardsSound {t : State} (h : Initial t) : GuardsSound t := by
  have hg : ∀ ch, guardOf t ch = Guard.initial := fun ch => by unfold guardOf; rw [h.guards]; cases ch <;> rfl
  exact ⟨fun ch => hg ch ▸ initialGuard_sound, fun ch _ => hg ch⟩

theorem Initial.peersSound {t : State} (h : Initial t) : PeersSound t := fun k => by
  have hk : peerOf t k = PeerRecord.initial := by unfold peerOf; rw [h.clock]; simp [ClockBlock.initial]
  exact hk ▸ initialPeer_sound

theorem Initial.attnSound {t : State} (h : Initial t) : AttnSound t := by
  constructor
  · rw [h.station, h.report]
    rintro (hf | ho | ⟨p, hp, -⟩)
    · cases hf
    · cases ho
    · rw [h.station] at hp
      cases hp
  · rw [h.report]
    nofun

theorem Initial.gatherWithin {t : State} (h : Initial t) : GatherWithin t.gather :=
  h.gather ▸ ⟨Nat.zero_le _, nofun, Nat.zero_le _, nofun, Nat.zero_le _⟩

theorem Initial.tableWithin {t : State} (h : Initial t) : TableWithin t.table := h.table ▸ initialTable_within

theorem Initial.keeps {s t : State} (h : Initial t) (hp : t.pending = s.pending) : Keeps s t where
  pending := hp
  guards _ := h.guardsSound
  peers _ := h.peersSound
  line := listening_kept h.state h.queue h.intake
  log _ := initialLog_sound h.log
  attn _ := h.attnSound
  gather _ := h.gatherWithin
  table _ := h.tableWithin
  fifo _ := h.report ▸ Nat.zero_le _

theorem restarted_initial (s : State) : Initial (restarted s) := ⟨rfl, rfl, rfl, rfl, rfl, rfl, rfl, rfl, rfl, rfl⟩

theorem poweredOn_initial (s : State) : Initial (poweredOn s) := ⟨rfl, rfl, rfl, rfl, rfl, rfl, rfl, rfl, rfl, rfl⟩

theorem reset_initial : Initial State.reset := ⟨rfl, rfl, rfl, rfl, rfl, rfl, rfl, rfl, rfl, rfl⟩

theorem clearSticky_keeps (s : State) : Keeps s (clearSticky s) :=
  ⟨rfl, guardsSound_of_eq rfl rfl, peersSound_of_eq rfl, lineKept_of_eq rfl rfl rfl, logSound_of_eq rfl,
    attnSound_of_eq rfl rfl rfl rfl rfl, fun h => { h with }, fun h => { h with }, id⟩

/-! ## Frames received -/

theorem offerIntake_keeps (x : IntakeItem) (s : State) : Keeps s (offerIntake x s) := by
  refine keeps_of_line ?_ (offerIntake_kept x s)
  unfold offerIntake
  split <;> rfl

theorem takeFeederItem_keeps (p : Params) (o : Nat) (x : IntakeItem) (s : State) : Keeps s (takeFeederItem p o x s) := by
  unfold takeFeederItem
  split
  · exact offerIntake_keeps x s
  · exact .refl s

theorem takeFrame_keeps (p : Params) (n : RxNotice) (t : Time) (s : State) : Keeps s (takeFrame p n t s) := by
  unfold takeFrame
  split
  · exact .refl s
  · split
    · exact offerFault_keeps _ _ s
    · unfold dispatchNotice
      split
      · exact takeTime_keeps _ _ _ _ _ _
      · split
        · exact .refl s
        · exact takeStatus_keeps _ _ _ _
      · exact takeFeederItem_keeps _ _ _ _
      · exact takeFeederItem_keeps _ _ _ _

end Sys2Proof.Machine
end

section
/-! PROOFS. Every command answers, and the invariants of the blocks that every step keeps. -/

namespace Sys2Proof.Machine

/-! ## Rows that answer -/

/-- The outcome is a next state that keeps the invariants of the blocks. -/
def Answers (o : Host.Outcome State Fault Refusal) (s : State) : Prop := ∃ t, o = .next t ∧ Keeps s t

theorem answers_next {s t : State} (h : Keeps s t) : Answers (.next t) s := ⟨t, rfl, h⟩

theorem answers_same (s : State) : Answers (.next s) s := answers_next (.refl s)

/-- A row with a test: it acts, or leaves the state as it is. -/
theorem answers_ite {c : Prop} [Decidable c] {s t : State} (h : c → Keeps s t) :
    Answers (if c then .next t else .next s) s := by
  split
  · exact answers_next (h ‹c›)
  · exact answers_same s

theorem answers_respond (r : Response) (s : State) : Answers (.next (respond r s)) s := answers_next (respond_keeps r s)

/-! ## Chapter 1 -/

theorem burstEnd_answers (ch : Channel) (b : Burst) (s : State) : Answers (execBurstEnd ch b s) s := by
  unfold execBurstEnd
  split
  · exact answers_same s
  · exact answers_ite fun _ => keeps_of_held _

theorem risingCrossing_answers (ch : Channel) (s : State) : Answers (execRisingCrossing ch s) s := by
  unfold execRisingCrossing
  split
  · exact answers_same s
  · exact answers_ite fun hon => setGuard_keeps hon (risenGuard_sound _ _)

theorem fallingCrossing_answers (ch : Channel) (s : State) : Answers (execFallingCrossing ch s) s := by
  unfold execFallingCrossing
  split
  · exact answers_same s
  · exact answers_ite fun hon => setGuard_keeps hon (fallenGuard_sound _ _)

theorem filterExpiry_answers (ch : Channel) (s : State) : Answers (execFilterExpiry ch s) s := by
  unfold execFilterExpiry
  split
  · exact answers_same s
  · exact answers_ite fun ⟨hon, hw, _⟩ => tripGuard_keeps hon hw

theorem quietExpiry_answers (ch : Channel) (s : State) : Answers (execQuietExpiry ch s) s := by
  unfold execQuietExpiry
  split
  · exact answers_same s
  · exact answers_ite fun ⟨hon, hq, _⟩ => reopen_keeps hon (hq ▸ nofun)

theorem rearmChannel_keeps {p : Params} {ch : Channel} {s : State} (hon : channelOn s ch = true) :
    Keeps s (rearmChannel p ch s) := by
  unfold rearmChannel
  split
  · rename_i ht
    split
    · exact respond_keeps _ s
    · exact (reopen_keeps hon (ht ▸ nofun)).trans (respond_keeps _ _)
  · exact respond_keeps _ s

theorem guardRearm_answers (code : Nat) (s : State) : Answers (execGuardRearm code s) s := by
  unfold execGuardRearm
  split
  · exact answers_respond _ s
  · exact answers_respond _ s
  · split
    · exact answers_next (rearmChannel_keeps ‹_›)
    · exact answers_respond _ s

/-! ## Chapter 2 -/

theorem hitDelivery_answers (ch : Channel) (l : List (Channel × Time)) (s : State) : Answers (execHitDelivery ch l s) s := by
  unfold execHitDelivery
  split
  · exact answers_ite fun _ => deliverHit_keeps _ _ s
  · exact answers_same s

theorem silenceExpiry_answers (k : PassKey) (s : State) : Answers (execSilenceExpiry k s) s := by
  unfold execSilenceExpiry
  split
  · exact answers_ite fun _ => takeSilence_keeps _ k s
  · exact answers_same s

theorem dwellExpiry_answers (k : PassKey) (s : State) : Answers (execDwellExpiry k s) s := by
  unfold execDwellExpiry
  split
  · exact answers_ite fun _ => closePass_keeps _ _ k s
  · exact answers_same s

/-! ## Chapter 4 -/

theorem staleExpiry_answers (n : Nat) (s : State) : Answers (execStaleExpiry n s) s := by
  unfold execStaleExpiry
  split
  · exact answers_ite fun h => goStale_keeps (Bool.and_eq_true_iff.mp h).1
  · exact answers_same s

theorem clockWrap_answers (s : State) : Answers (execClockWrap s) s := answers_ite fun _ => wrapClock_keeps s

theorem timeIntervalExpiry_answers (s : State) : Answers (execTimeIntervalExpiry s) s :=
  answers_ite fun _ => Keeps.trans (t := { s with clock := { s.clock with timeDue := none } }) (keeps_of_schedules rfl rfl)
    (offerTime_keeps _)

theorem statusIntervalExpiry_answers (s : State) : Answers (execStatusIntervalExpiry s) s := by
  unfold execStatusIntervalExpiry
  split
  · exact answers_same s
  · exact answers_ite fun _ => (scheduleStatus_keeps s).trans (offerStatus_keeps _ _)

/-! ## Chapter 5 -/

theorem statusPromotion_answers (s : State) : Answers (execStatusPromotion s) s := by
  unfold execStatusPromotion
  split
  · exact answers_same s
  · exact answers_next ((setQueue_unit _ s).keeps (promote_kept (List.mem_of_find?_eq_some ‹_›)))

theorem carrierRise_answers (s : State) : Answers (execCarrierRise s) s := by
  unfold execCarrierRise
  split
  · exact answers_same s
  · exact answers_next (keeps_of_line rfl (lineKept_of_eq rfl rfl rfl))

theorem carrierDrop_answers (s : State) : Answers (execCarrierDrop s) s :=
  answers_ite fun _ => (dropCarrier_unit s).keeps (dropCarrier_kept s)

theorem attemptStart_answers (s : State) : Answers (execAttemptStart s) s := by
  unfold execAttemptStart
  split
  · exact answers_ite fun _ => (beginAttempt_unit _ _ _ s).keeps (beginAttempt_kept ‹_› ‹_›)
  · exact answers_same s

theorem attemptComplete_answers (s : State) : Answers (execAttemptComplete s) s := by
  unfold execAttemptComplete
  split
  · exact answers_next ((completeAttempt_unit _ s).keeps (completeAttempt_kept ‹_›))
  · exact answers_same s

theorem collision_answers (draw : Nat) (s : State) : Answers (execCollision draw s) s := by
  unfold execCollision
  split
  · exact answers_next ((collide_unit _ draw s).keeps (collide_kept draw ‹_›))
  · exact answers_same s

theorem backoffEnd_answers (s : State) : Answers (execBackoffEnd s) s :=
  answers_ite fun ⟨h, _⟩ => (resumeLine_unit s).keeps (resumeLine_kept (h ▸ nofun))

theorem congestionEnd_answers (s : State) : Answers (execCongestionEnd s) s :=
  answers_ite fun ⟨h, _⟩ => (resumeLine_unit s).keeps (resumeLine_kept (h ▸ nofun))

theorem lineJammed_answers (s : State) : Answers (execLineJammed s) s := answers_ite fun _ => jamLine_keeps s

theorem frameReceived_answers (signal : List Bool) (t : Time) (s : State) : Answers (execFrameReceived signal t s) s := by
  unfold execFrameReceived
  split
  · exact answers_next (takeFrame_keeps _ _ t s)
  · exact answers_same s

/-! ## Chapter 6 -/

theorem pairWaitDue_answers (i : SlotNo) (s : State) : Answers (execPairWaitDue i s) s :=
  answers_next (keeps_of_table fun h => { h with pendingOnce := map_once _ (fun _ => by split <;> rfl) h.pendingOnce })

theorem settleDue_answers (i : SlotNo) (s : State) : Answers (execSettleDue i s) s :=
  answers_next (keeps_of_table fun h =>
    { h with settleOnce := map_once _ (fun _ => by split <;> rfl) h.settleOnce, settle := (List.length_map _).trans_le h.settle })

theorem watchDue_answers (i : SlotNo) (s : State) : Answers (execWatchDue i s) s :=
  answers_next (keeps_of_table fun h =>
    { h with watchOnce := map_once _ (fun _ => by split <;> rfl) h.watchOnce, watch := (List.length_map _).trans_le h.watch })

theorem trapWaitDue_answers (i : SlotNo) (s : State) : Answers (execTrapWaitDue i s) s :=
  answers_next (keeps_of_table fun h => { h with trapOnce := map_once _ (fun _ => by split <;> rfl) h.trapOnce })

/-! ## Chapters 9 and 10 -/

theorem held_answers (o : Option Response) (cmd : PortCommand) (s : State) : Answers (.next (takeHeld o cmd s)) s :=
  answers_next (takeHeld_keeps o cmd s)

theorem reportRead_answers (count : Nat) (s : State) : Answers (execReportRead count s) s := by
  unfold execReportRead
  split
  · split
    · exact answers_next (readRecords_keeps count s)
    · exact answers_respond _ s
  · exact answers_respond _ s

theorem readTimerExpiry_answers (s : State) : Answers (execReadTimerExpiry s) s := by
  unfold execReadTimerExpiry
  split
  · exact answers_ite fun _ => setPort_keeps _ s
  · exact answers_same s

theorem poll_answers (s : State) : Answers (execPoll s) s := by
  unfold execPoll
  split
  · exact answers_respond _ s
  · exact answers_respond _ s
  · exact answers_next (answer_keeps _ _ _ s)
  · exact answers_next (answer_keeps _ _ _ s)

theorem responseDelivered_answers (s : State) : Answers (execResponseDelivered s) s := by
  unfold execResponseDelivered
  split
  · exact answers_same s
  · split
    · exact answers_same s
    · exact answers_next (deliver_keeps _ s)

theorem deselect_answers (s : State) : Answers (execDeselect s) s := answers_next (keeps_of_port s.report.port none)

theorem unknownCommand_answers (code length : Nat) (s : State) : Answers (execUnknownCommand code length s) s := by
  unfold execUnknownCommand
  split
  · exact answers_same s
  · exact answers_respond _ s

theorem configure_answers (args : ConfigArgs) (levels : PerChannel Nat) (s : State) : Answers (execConfigure args levels s) s := by
  unfold execConfigure
  split
  · exact answers_respond _ s
  · exact answers_respond _ s
  · exact answers_next ((configure_keeps ‹_›).trans (respond_keeps _ _))

theorem clearingEnd_answers (s : State) : Answers (execClearingEnd s) s := answers_ite fun _ => keeps_of_station rfl rfl

theorem stationHalt_answers (s : State) : Answers (execStationHalt s) s := by
  unfold execStationHalt
  split
  · exact answers_same s
  · exact answers_ite fun _ => haltSession_keeps _ s

/-! ## Every command -/

theorem exec_answers (c : Instr) (s : State) : Answers (exec c s) s := by
  cases c with
  | powerOnReset => exact answers_next ((poweredOn_initial s).keeps rfl)
  | burstEnd ch b => exact burstEnd_answers ch b s
  | hitDelivery ch l => exact hitDelivery_answers ch l s
  | risingCrossing ch => exact risingCrossing_answers ch s
  | fallingCrossing ch => exact fallingCrossing_answers ch s
  | filterExpiry ch => exact filterExpiry_answers ch s
  | quietExpiry ch => exact quietExpiry_answers ch s
  | guardRearm code => exact guardRearm_answers code s
  | silenceExpiry k => exact silenceExpiry_answers k s
  | dwellExpiry k => exact dwellExpiry_answers k s
  | staleExpiry n => exact staleExpiry_answers n s
  | clockWrap => exact clockWrap_answers s
  | timeIntervalExpiry => exact timeIntervalExpiry_answers s
  | statusIntervalExpiry => exact statusIntervalExpiry_answers s
  | statusPromotion => exact statusPromotion_answers s
  | carrierRise => exact carrierRise_answers s
  | carrierDrop => exact carrierDrop_answers s
  | attemptStart => exact attemptStart_answers s
  | attemptComplete => exact attemptComplete_answers s
  | collision draw => exact collision_answers draw s
  | backoffEnd => exact backoffEnd_answers s
  | congestionEnd => exact congestionEnd_answers s
  | lineJammed => exact lineJammed_answers s
  | frameReceived signal t => exact frameReceived_answers signal t s
  | pairWaitDue i => exact pairWaitDue_answers i s
  | settleDue i => exact settleDue_answers i s
  | watchDue i => exact watchDue_answers i s
  | trapWaitDue i => exact trapWaitDue_answers i s
  | localGrant => exact answers_next (grantTo_keeps .loc localWork_keeps s)
  | lineGrant => exact answers_next (grantTo_keeps .line lineWork_keeps s)
  | timerGrant => exact answers_next (grantTo_keeps .timer timerWork_keeps s)
  | portGrant => exact answers_next (grantTo_keeps .port portWork_keeps s)
  | configure args levels => exact configure_answers args levels s
  | configRead => exact answers_respond _ s
  | restart => exact answers_next (((restarted_initial s).keeps (s := s) rfl).trans (respond_keeps _ _))
  | startSession => exact held_answers _ _ s
  | clearingEnd => exact clearingEnd_answers s
  | halt => exact held_answers _ _ s
  | stationHalt => exact stationHalt_answers s
  | rosterPut t c => exact held_answers _ _ s
  | rosterClear => exact held_answers _ _ s
  | slotRead i => exact held_answers _ _ s
  | snapshot first count => exact held_answers _ _ s
  | withdraw n => exact held_answers _ _ s
  | retime n t => exact held_answers _ _ s
  | mark t u => exact held_answers _ _ s
  | reportRead count => exact reportRead_answers count s
  | readTimerExpiry => exact readTimerExpiry_answers s
  | attentionAgeExpiry => exact answers_next (judgeAttn_keeps s)
  | poll => exact poll_answers s
  | unknownCommand code length => exact unknownCommand_answers code length s
  | deselect => exact deselect_answers s
  | logRead first count => exact answers_respond _ s
  | peerRead n => exact answers_respond _ s
  | statusRead => exact answers_next ((clearSticky_keeps s).trans (respond_keeps _ _))
  | faultRead => exact answers_respond _ s
  | faultClear => exact answers_next ((unlockFault_keeps s).trans (respond_keeps _ _))
  | overrunClear => exact answers_next ((unlockOverrun_keeps s).trans (respond_keeps _ _))
  | responseDelivered => exact responseDelivered_answers s

theorem step_of_pending {c : Instr} {cs : List Instr} {s : State} (h : s.pending = c :: cs) :
    step s = exec c { s with pending := cs } := by
  unfold step
  rw [h]

theorem step_of_nil {s : State} (h : s.pending = []) : step s = .next (tick s) := by
  unfold step
  rw [h]

/-- A step keeps the invariants of the blocks, from the state with what is left of its queue. -/
theorem step_keeps {s t : State} (h : step s = .next t) : ∃ cs, Keeps { s with pending := cs } t := by
  cases hp : s.pending with
  | nil =>
    rw [step_of_nil hp] at h
    cases h
    exact ⟨s.pending, tick_keeps s⟩
  | cons c cs =>
    rw [step_of_pending hp] at h
    obtain ⟨u, hu, hk⟩ := exec_answers c { s with pending := cs }
    rw [hu] at h
    cases h
    exact ⟨cs, hk⟩

theorem isRunning_withPending (cs : List Instr) (s : State) : isRunning { s with pending := cs } = isRunning s := rfl

/-- Settles O3: the row of each command answers, and `Keeps` holds the waiting commands fixed. -/
theorem everyCommandAnswersNext : Obligations.EveryCommandAnswersNext := fun c s =>
  let ⟨t, ht, hk⟩ := exec_answers c s
  ⟨t, ht, hk.pending⟩

/-- Settles O11. -/
theorem everyStepKeepsGuardsSound : Obligations.EveryStepKeepsGuardsSound := fun s _ hs ht =>
  let ⟨_, hk⟩ := step_keeps ht
  hk.guards (guardsSound_of_eq (s := s) rfl rfl hs)

/-- Settles O21. -/
theorem everyStepKeepsPeersSound : Obligations.EveryStepKeepsPeersSound := fun s _ hs ht =>
  let ⟨_, hk⟩ := step_keeps ht
  hk.peers (peersSound_of_eq (s := s) rfl hs)

/-- Settles O30. -/
theorem everyStepKeepsTheLineSound : Obligations.EveryStepKeepsTheLineSound := fun s _ hs ht =>
  let ⟨cs, hk⟩ := step_keeps ht
  hk.line.sound ((lineKept_of_line (s := s) (t := { s with pending := cs }) rfl).sound hs)

/-- Settles O40: each block keeps its own capacities. -/
theorem everyStepKeepsCapacities : Obligations.EveryStepKeepsCapacities := fun _ _ hs ht =>
  let ⟨_, hk⟩ := step_keeps ht
  hk.capacities { hs with }

/-- Settles O49. -/
theorem everyStepKeepsTheLogSound : Obligations.EveryStepKeepsTheLogSound := fun s _ hs ht =>
  let ⟨_, hk⟩ := step_keeps ht
  hk.log (logSound_of_eq (s := s) rfl hs)

/-- Settles O50. -/
theorem everyStepKeepsAttnSound : Obligations.EveryStepKeepsAttnSound := fun s _ hs ht =>
  let ⟨_, hk⟩ := step_keeps ht
  hk.attn (attnSound_of_eq (s := s) rfl rfl rfl rfl rfl hs)

/-- Settles O1. -/
theorem stepRunsTheFrontCommand : Obligations.StepRunsTheFrontCommand := fun _ _ _ h => step_of_pending h

theorem now_eq_lastTime_iff (s : State) : s.now = lastTime ↔ s.now.toNat = 281474976710655 :=
  ⟨fun h => h ▸ rfl, fun h => BitVec.eq_of_toNat_eq h⟩

/-- Settles O2, by the two branches of the tick. -/
theorem emptyQueueCountsOneMicrosecond : Obligations.EmptyQueueCountsOneMicrosecond := by
  intro s hp
  rw [step_of_nil hp]
  constructor
  · intro h
    have hl : s.now ≠ lastTime := fun e => absurd ((now_eq_lastTime_iff s).mp e) (Nat.ne_of_lt h)
    refine ⟨tick s, rfl, ?_, ?_⟩ <;> rw [tick, if_neg hl]
    show (s.now + 1).toNat = _
    rw [BitVec.toNat_add]
    simp
    omega
  · intro h
    have hl := (now_eq_lastTime_iff s).mpr h
    show _ = execClockWrap s
    rw [tick, execClockWrap, if_pos hl, if_pos hl]

end Sys2Proof.Machine
end

section
/-! PROOFS. The competitor table and its timed lists: what leaves them as they are, the moves on a slot in use, and the operations that
give, free and empty slots (chapters 6, 7 and 10). -/

namespace Sys2Proof.Machine

/-! ## Operations that leave slots, lists and intake -/

/-- Slots, timed lists and line intake stand as they were, and the station is in RUNNING as before. -/
structure TableSame (s t : State) : Prop where
  slots : t.table.slots = s.table.slots
  pending : t.table.pending = s.table.pending
  settle : t.table.settle = s.table.settle
  watch : t.table.watch = s.table.watch
  trap : t.table.trap = s.table.trap
  intake : t.line.intake = s.line.intake
  running : isRunning t = isRunning s

theorem TableSame.refl (s : State) : TableSame s s := ⟨rfl, rfl, rfl, rfl, rfl, rfl, rfl⟩

theorem TableSame.trans {s t u : State} (h : TableSame s t) (k : TableSame t u) : TableSame s u :=
  ⟨k.slots.trans h.slots, k.pending.trans h.pending, k.settle.trans h.settle, k.watch.trans h.watch, k.trap.trans h.trap,
    k.intake.trans h.intake, k.running.trans h.running⟩

theorem isRunning_congr {s t : State} (hc : t.station.conf = s.station.conf) (hm : t.station.mode = s.station.mode) :
    isRunning t = isRunning s := by
  unfold isRunning stationState
  rw [hc, hm]

/-- Table and intake as they were, and the station in the same state. -/
theorem tableSame_of {s t : State} (ht : t.table = s.table) (hi : t.line.intake = s.line.intake)
    (hc : t.station.conf = s.station.conf) (hm : t.station.mode = s.station.mode) : TableSame s t :=
  ⟨congrArg _ ht, congrArg _ ht, congrArg _ ht, congrArg _ ht, congrArg _ ht, hi, isRunning_congr hc hm⟩

theorem TableSame.slotOf {s t : State} (h : TableSame s t) (i : SlotNo) : slotOf t i = slotOf s i := by
  show t.table.slots[i] = s.table.slots[i]
  rw [h.slots]

theorem LineUnit.tableSame {s t : State} (h : LineUnit s t) : TableSame s t :=
  tableSame_of h.table h.intake (congrArg _ h.station) (congrArg _ h.station)

theorem offerRecord_same (b : RecordBody) (s : State) : TableSame s (offerRecord b s) := tableSame_of rfl rfl rfl rfl

theorem offerFault_same (c : FaultCode) (d : Option Nat) (s : State) : TableSame s (offerFault c d s) := tableSame_of rfl rfl rfl rfl

theorem drawNumber_same (s : State) : TableSame s (drawNumber s).2 := by
  obtain ⟨-, h⟩ | ⟨n, -, -, h⟩ | ⟨n, -, -, h⟩ := drawNumber_cases s <;> rw [h]
  · exact .refl s
  · exact tableSame_of rfl rfl rfl rfl
  · dsimp only
    rw [exhaust_eq]
    exact tableSame_of rfl rfl rfl rfl

theorem respond_same (r : Response) (s : State) : TableSame s (respond r s) := tableSame_of rfl rfl rfl rfl

theorem takeHeld_same (o : Option Response) (cmd : PortCommand) (s : State) : TableSame s (takeHeld o cmd s) := by
  obtain ⟨port, tr, h⟩ := takeHeld_frame o cmd s
  rw [h]
  exact tableSame_of rfl rfl rfl rfl

theorem setEntries_same (es : List Entry) (s : State) : TableSame s (setEntries es s) := tableSame_of rfl rfl rfl rfl

theorem acceptClosing_same (p : Params) (s : State) : TableSame s (acceptClosing p s) := by
  rw [acceptClosing_frame]
  exact tableSame_of rfl rfl rfl rfl

theorem becomeClosing_same (p : Params) (c : CloseCause) (k : PassKey) (n : Option Nat) (s : State) :
    TableSame s (becomeClosing p c k n s) :=
  TableSame.trans (t := { s with gather :=
      { s.gather with
        entries := updateLive k (closedEntry p c n s.gather.closeCount) s.gather.entries
        closeCount := s.gather.closeCount + 1 } }) (tableSame_of rfl rfl rfl rfl) (acceptClosing_same p _)

theorem closePass_same (p : Params) (c : CloseCause) (k : PassKey) (s : State) : TableSame s (closePass p c k s) := by
  unfold closePass
  split
  · split
    · exact setEntries_same _ s
    · exact becomeClosing_same p c k none s
  · have hd := drawNumber_same s
    split
    · rename_i t ht
      rw [ht] at hd
      exact hd.trans (setEntries_same _ t)
    · rename_i n t ht
      rw [ht] at hd
      exact hd.trans (becomeClosing_same p c k (some n) t)

theorem closePasses_same (p : Params) (c : CloseCause) (ks : List PassKey) (s : State) : TableSame s (closePasses p c ks s) := by
  induction ks generalizing s with
  | nil => exact .refl s
  | cons k ks ih => exact (closePass_same p c k s).trans (ih _)

theorem haltGatherer_same (p : Params) (s : State) : TableSame s (haltGatherer p s) :=
  (closePasses_same p .interrupted _ s).trans (setEntries_same _ _)

theorem takeSilence_same (p : Params) (k : PassKey) (s : State) : TableSame s (takeSilence p k s) := by
  unfold takeSilence
  split
  · exact .refl s
  · split
    · exact closePass_same p .silence k s
    · exact setEntries_same _ s

theorem makeEntry_same (p : Params) (k : PassKey) (h : Hit) (s : State) : TableSame s (makeEntry p k h s) := by
  unfold makeEntry
  split
  · dsimp only
    split
    · exact (setEntries_same _ s).trans (takeSilence_same p k _)
    · exact setEntries_same _ s
  · exact .refl s

theorem setCrowded_same (s : State) : TableSame s (setCrowded s) := tableSame_of rfl rfl rfl rfl

theorem fullTable_same (p : Params) (k : PassKey) (h : Hit) (s : State) : TableSame s (fullTable p k h s) := by
  unfold fullTable
  split
  · exact setCrowded_same s
  · split
    · exact setCrowded_same s
    · split
      · exact (setEntries_same _ s).trans (makeEntry_same p k h _)
      · split
        · exact (closePass_same p .early _ s).trans (makeEntry_same p k h _)
        · exact setCrowded_same s

theorem takeHit_same (p : Params) (h : Hit) (s : State) : TableSame s (takeHit p h s) := by
  unfold takeHit
  dsimp only
  split
  · split
    · split <;> exact setEntries_same _ s
    · split
      · exact makeEntry_same p _ h s
      · exact fullTable_same p _ h s
  · exact .refl s

theorem deliverHit_same (p : Params) (h : Hit) (s : State) : TableSame s (deliverHit p h s) := by
  have hl : TableSame s { s with channels := { s.channels with held := s.channels.held.erase h } } := tableSame_of rfl rfl rfl rfl
  unfold deliverHit
  dsimp only
  split
  · exact hl.trans (takeHit_same p h _)
  · exact hl

theorem tripGuard_same (p : Params) (ch : Channel) (s : State) : TableSame s (tripGuard p ch s) := by
  have ht : TableSame s (offerRecord (guardRecord p ch .trip s) (setGuard ch (trippedGuard s.now (guardOf s ch)) s)) :=
    tableSame_of rfl rfl rfl rfl
  unfold tripGuard
  dsimp only
  split
  · exact ht.trans ((closePasses_same p .interrupted _ _).trans (setEntries_same _ _))
  · exact ht

theorem rearmChannel_same (p : Params) (ch : Channel) (s : State) : TableSame s (rearmChannel p ch s) := by
  unfold rearmChannel
  split
  · split
    · exact respond_same _ s
    · exact tableSame_of rfl rfl rfl rfl
  · exact respond_same _ s

theorem setPeer_same (k : Fin 31) (r : PeerRecord) (s : State) : TableSame s (setPeer k r s) := tableSame_of rfl rfl rfl rfl

theorem reportPeer_same (p : Params) (n : Nat) (old new : PeerRecord) (c : PeerCause) (t : Time) (s : State) :
    TableSame s (reportPeer p n old new c t s) := by
  unfold reportPeer
  split
  · exact offerRecord_same _ s
  · exact .refl s

theorem takeTime_same (p : Params) (n : Nat) (send : Time) (pos : Nat) (receive : Time) (s : State) :
    TableSame s (takeTime p n send pos receive s) := by
  unfold takeTime
  split
  · exact .refl s
  · dsimp only
    split
    · split
      · exact setPeer_same _ _ s
      · exact (setPeer_same _ _ s).trans (reportPeer_same _ _ _ _ _ _ _)
    · exact setPeer_same _ _ s

theorem takeStatus_same (n : Nat) (f : StatusFields) (receive : Time) (s : State) : TableSame s (takeStatus n f receive s) := by
  unfold takeStatus
  split
  · exact .refl s
  · exact setPeer_same _ _ s

theorem goStale_same (p : Params) (n : Nat) (k : Fin 31) (s : State) : TableSame s (goStale p n k s) := by
  have ht := (setPeer_same k (stalePeer (peerOf s k)) s).trans
    (reportPeer_same p n (peerOf s k) (stalePeer (peerOf s k)) .silence s.now _)
  unfold goStale
  dsimp only
  split
  · exact ht.trans (offerFault_same _ _ _)
  · exact ht

theorem wrapClock_same (s : State) : TableSame s (wrapClock s) := tableSame_of rfl rfl rfl rfl

theorem tick_same (s : State) : TableSame s (tick s) := by
  unfold tick
  split
  · exact wrapClock_same s
  · exact tableSame_of rfl rfl rfl rfl

theorem jamLine_same (s : State) : TableSame s (jamLine s) := by
  have hc : TableSame s (cutAttempt s) := by
    unfold cutAttempt
    split
    · exact (endAttempt_unit s).tableSame
    · exact .refl s
  exact hc.trans (tableSame_of rfl rfl rfl rfl)

/-- HALTING and IDLE are both not RUNNING. -/
theorem finishHalting_same (s : State) : TableSame s (finishHalting s) := by
  unfold finishHalting
  split
  · rename_i h
    refine ⟨rfl, rfl, rfl, rfl, rfl, rfl, ?_⟩
    unfold isRunning stationState
    rw [h.1]
    dsimp only
    cases s.station.conf <;> rfl
  · exact .refl s

theorem popLocal_same (p : Params) (s : State) : TableSame s (popLocal p s) :=
  TableSame.trans (t := { s with gather := { s.gather with queue := s.gather.queue.tail } }) (tableSame_of rfl rfl rfl rfl)
    ((acceptClosing_same p _).trans (finishHalting_same _))

theorem beginGrant_same (r : Requester) (s : State) : TableSame s (beginGrant r s) := ⟨rfl, rfl, rfl, rfl, rfl, rfl, rfl⟩

theorem endGrant_same (s t : State) : TableSame t (endGrant s t) := by
  rw [endGrant_frame]
  exact ⟨rfl, rfl, rfl, rfl, rfl, rfl, rfl⟩

/-! ## The two invariants together -/

/-- The competitor table stays sound, and the timed lists stay empty outside RUNNING. -/
structure KeepsTable (s t : State) : Prop where
  table : TableSound s → TableSound t
  timed : TimedOnlyInRunning s → TimedOnlyInRunning t

theorem KeepsTable.refl (s : State) : KeepsTable s s := ⟨id, id⟩

theorem KeepsTable.trans {s t u : State} (h : KeepsTable s t) (k : KeepsTable t u) : KeepsTable s u :=
  ⟨k.table ∘ h.table, k.timed ∘ h.timed⟩

theorem timed_of_running {t : State} (h : isRunning t = true) : TimedOnlyInRunning t := by
  constructor <;> intro hn <;> rw [h] at hn <;> cases hn

/-- The slots change so that those in use stay in use and hold what they held, and the entries name slots that were in use. -/
structure TableStep (s t : State) : Prop where
  sound : ∀ j, SlotSound (slotOf s j) → SlotSound (slotOf t j)
  held : ∀ j u, holdsTransponder u (slotOf t j) = true → holdsTransponder u (slotOf s j) = true
  used : ∀ j, (slotOf s j).state ≠ .free → (slotOf t j).state ≠ .free
  pending : (∀ e ∈ s.table.pending, (slotOf s e.slot).state ≠ .free) → ∀ e ∈ t.table.pending, (slotOf s e.slot).state ≠ .free
  settle : (∀ e ∈ s.table.settle, (slotOf s e.slot).state ≠ .free) → ∀ e ∈ t.table.settle, (slotOf s e.slot).state ≠ .free
  watch : (∀ e ∈ s.table.watch, (slotOf s e.slot).state ≠ .free) → ∀ e ∈ t.table.watch, (slotOf s e.slot).state ≠ .free
  trap : (∀ e ∈ s.table.trap, (slotOf s e.slot).state ≠ .free) → ∀ e ∈ t.table.trap, (slotOf s e.slot).state ≠ .free

theorem TableStep.tableSound {s t : State} (h : TableStep s t) (hs : TableSound s) : TableSound t where
  slots i := h.sound i (hs.slots i)
  unique i j u hi hj := hs.unique i j u (h.held i u hi) (h.held j u hj)
  pending e he := h.used _ (h.pending hs.pending e he)
  settle e he := h.used _ (h.settle hs.settle e he)
  watch e he := h.used _ (h.watch hs.watch e he)
  trap e he := h.used _ (h.trap hs.trap e he)

/-- The slots as they were. -/
theorem tableStep_of_slots {s t : State} (hslots : t.table.slots = s.table.slots)
    (hp : ∀ e ∈ t.table.pending, (slotOf s e.slot).state ≠ .free ∨ e.slot ∈ s.table.pending.map (·.slot))
    (hs : ∀ e ∈ t.table.settle, (slotOf s e.slot).state ≠ .free ∨ e.slot ∈ s.table.settle.map (·.slot))
    (hw : ∀ e ∈ t.table.watch, (slotOf s e.slot).state ≠ .free ∨ e.slot ∈ s.table.watch.map (·.slot))
    (ht : ∀ e ∈ t.table.trap, (slotOf s e.slot).state ≠ .free ∨ e.slot ∈ s.table.trap.map (·.slot)) : TableStep s t := by
  have hslot : ∀ j, slotOf t j = slotOf s j := fun j => by
    show t.table.slots[j] = s.table.slots[j]
    rw [hslots]
  have hlist : ∀ {α : Type} {slot : α → SlotNo} {l : List α} {x : SlotNo}, (∀ e ∈ l, (slotOf s (slot e)).state ≠ .free) →
      (slotOf s x).state ≠ .free ∨ x ∈ l.map slot → (slotOf s x).state ≠ .free := by
    intro α slot l x hl hx
    rcases hx with hx | hx
    · exact hx
    · obtain ⟨e, he, rfl⟩ := List.mem_map.mp hx
      exact hl e he
  exact
    { sound := fun j h => hslot j ▸ h
      held := fun j u h => hslot j ▸ h
      used := fun j h => hslot j ▸ h
      pending := fun h e he => hlist h (hp e he)
      settle := fun h e he => hlist h (hs e he)
      watch := fun h e he => hlist h (hw e he)
      trap := fun h e he => hlist h (ht e he) }

/-- An entry of a list names a slot that an entry of the list names. -/
theorem mem_slots {α : Type} {slot : α → SlotNo} {l m : List α} (h : ∀ e ∈ l, e ∈ m) :
    ∀ e ∈ l, slot e ∈ m.map slot := fun e he => List.mem_map_of_mem (h e he)

theorem TableSame.tableStep {s t : State} (h : TableSame s t) : TableStep s t :=
  tableStep_of_slots h.slots (fun _ he => .inr (List.mem_map_of_mem (h.pending ▸ he)))
    (fun _ he => .inr (List.mem_map_of_mem (h.settle ▸ he))) (fun _ he => .inr (List.mem_map_of_mem (h.watch ▸ he)))
    (fun _ he => .inr (List.mem_map_of_mem (h.trap ▸ he)))

theorem TableSame.keepsTable {s t : State} (h : TableSame s t) : KeepsTable s t where
  table := h.tableStep.tableSound
  timed hs :=
    ⟨fun hr => h.pending.trans (hs.pending (h.running ▸ hr)), fun hr => h.settle.trans (hs.settle (h.running ▸ hr)),
      fun hr => h.watch.trans (hs.watch (h.running ▸ hr)), fun hr => h.trap.trans (hs.trap (h.running ▸ hr)),
      fun hr => h.intake.trans (hs.intake (h.running ▸ hr))⟩

/-! ## Moves on a slot in use -/

theorem slotKept_sound {y x : Slot} (h : SlotKept y x) (hy : y.state ≠ .free) (hs : SlotSound y) : SlotSound x where
  free hx := by
    rcases h.state with hst | hst
    · exact absurd (hst ▸ hx) hy
    · rw [hst] at hx
      cases hx
  rostered hx := by
    rcases h.state with hst | hst
    · exact h.rostered.trans (hs.rostered (hst ▸ hx))
    · rw [hst] at hx
      cases hx
  held _ := h.transponder ▸ hs.held hy

theorem slotKept_used {y x : Slot} (h : SlotKept y x) (hy : y.state ≠ .free) : x.state ≠ .free := by
  rcases h.state with hst | hst <;> rw [hst]
  · exact hy
  · nofun

/-- A slot in use takes other contents about the same transponder. -/
theorem setSlot_tableStep_of {s : State} {i : SlotNo} {x : Slot} (hf : (slotOf s i).state ≠ .free) (hx : x.state ≠ .free)
    (ht : x.transponder = (slotOf s i).transponder) (hs : SlotSound (slotOf s i) → SlotSound x) : TableStep s (setSlot i x s) := by
  have hother : ∀ j, j ≠ i → slotOf (setSlot i x s) j = slotOf s j := fun j hj => slotOf_setSlot_other s i j x hj
  refine ⟨fun j hj => ?_, fun j u hu => ?_, fun j hj => ?_, id, id, id, id⟩ <;> by_cases hi : j = i
  · subst hi
    rw [slotOf_setSlot_same]
    exact hs hj
  · rw [hother j hi]
    exact hj
  · subst hi
    rw [slotOf_setSlot_same] at hu
    unfold holdsTransponder at hu ⊢
    exact Bool.and_eq_true_iff.mpr ⟨bne_iff_ne.mpr hf, ht ▸ (Bool.and_eq_true_iff.mp hu).2⟩
  · rw [hother j hi] at hu
    exact hu
  · subst hi
    rw [slotOf_setSlot_same]
    exact hx
  · rw [hother j hi]
    exact hj

theorem setSlot_tableStep {s : State} {i : SlotNo} {x : Slot} (h : SlotKept (slotOf s i) x) (hf : (slotOf s i).state ≠ .free) :
    TableStep s (setSlot i x s) :=
  setSlot_tableStep_of hf (slotKept_used h hf) h.transponder (slotKept_sound h hf)

theorem offerHigh_same (n : Nat) (b : NoticeBody) (o : Owed) (s : State) : TableSame s (offerHigh n b o s) := by
  obtain ⟨-, h⟩ | ⟨-, h⟩ := offerHigh_cases n b o s <;> rw [h]
  · exact ((setQueue_unit _ s).trans (settleLine_unit _)).tableSame
  · exact tableSame_of rfl rfl rfl rfl

theorem offerRevision_same (x transponder : Nat) (r : Revision) (s : State) : TableSame s (offerRevision x transponder r s) := by
  unfold offerRevision
  split
  · unfold reviseUnsent
    split
    · exact tableSame_of rfl rfl rfl rfl
    · exact .refl s
  · split
    · dsimp only
      split
      · exact ((setQueue_unit _ s).trans ((pullUnsent_unit _).trans (settleLine_unit _))).tableSame
      · exact (setQueue_unit _ s).tableSame
    · exact offerHigh_same _ _ _ s

theorem updateLog_same (n : Nat) (f : LogEntry → LogEntry) (s : State) : TableSame s (updateLog n f s) :=
  tableSame_of rfl rfl rfl rfl

theorem writeLog_same (n : Nat) (e : LogEntry) (s : State) : TableSame s (writeLog n e s) := tableSame_of rfl rfl rfl rfl

theorem settleTimer_same (s : State) : TableSame s (settleTimer s) := ⟨rfl, rfl, rfl, rfl, rfl, rfl, rfl⟩

/-- Every entry of a list stays what it was, is dropped, or is about slot `i`. -/
theorem slot_or_mem {α : Type} {slot : α → SlotNo} {i : SlotNo} {l m : List α} (h : ∀ e ∈ l, slot e = i ∨ e ∈ m) {s : State}
    (hf : (slotOf s i).state ≠ .free) : ∀ e ∈ l, (slotOf s (slot e)).state ≠ .free ∨ slot e ∈ m.map slot := fun e he => by
  rcases h e he with hi | hm
  · exact .inl (hi ▸ hf)
  · exact .inr (List.mem_map_of_mem hm)

theorem mem_map_slots {α : Type} {slot : α → SlotNo} {f : α → α} (hf : ∀ e, slot (f e) = slot e) {l : List α} :
    ∀ e ∈ l.map f, slot e ∈ l.map slot := fun e he => by
  obtain ⟨d, hd, rfl⟩ := List.mem_map.mp he
  exact (hf d).symm ▸ List.mem_map_of_mem hd

/-- The move is made on a slot in use. -/
theorem SlotMove.tableStep {arms : Prop} {i : SlotNo} {s t : State} (h : SlotMove arms i s t) (hf : (slotOf s i).state ≠ .free) :
    TableStep s t := by
  have same : ∀ {α : Type} {slot : α → SlotNo} (l : List α), ∀ e ∈ l, (slotOf s (slot e)).state ≠ .free ∨ slot e ∈ l.map slot :=
    fun l e he => .inr (List.mem_map_of_mem he)
  cases h with
  | slot hk => exact setSlot_tableStep hk hf
  | logged n hf => exact (updateLog_same _ _ s).tableStep
  | written he => exact (writeLog_same _ _ s).tableStep
  | recorded b => exact (offerRecord_same b s).tableStep
  | noticed n o hb => exact (offerHigh_same _ _ _ s).tableStep
  | revised n tr r => exact (offerRevision_same _ _ _ s).tableStep
  | pendingRemoved =>
    exact tableStep_of_slots rfl (fun e he => .inr (List.mem_map_of_mem (List.mem_of_mem_filter he))) (same _) (same _) (same _)
  | settleRemoved =>
    exact tableStep_of_slots rfl (same _) (fun e he => .inr (List.mem_map_of_mem (List.mem_of_mem_filter he))) (same _) (same _)
  | watchRemoved =>
    exact tableStep_of_slots rfl (same _) (same _) (fun e he => .inr (List.mem_map_of_mem (List.mem_of_mem_filter he))) (same _)
  | trapRemoved =>
    exact tableStep_of_slots rfl (same _) (same _) (same _) (fun e he => .inr (List.mem_map_of_mem (List.mem_of_mem_filter he)))
  | pendingAdded hi _ _ =>
    exact tableStep_of_slots rfl (slot_or_mem (fun e he => ((mem_insertByTime _ _ _ _).mp he).imp_left (· ▸ hi)) hf) (same _) (same _)
      (same _)
  | settleAdded hi _ _ _ =>
    exact tableStep_of_slots rfl (same _) (slot_or_mem (fun e he => ((mem_insertByTime _ _ _ _).mp he).imp_left (· ▸ hi)) hf) (same _)
      (same _)
  | settleReplaced hi _ _ =>
    exact tableStep_of_slots rfl (same _)
      (slot_or_mem (fun e he => ((mem_insertByTime _ _ _ _).mp he).imp (· ▸ hi) List.mem_of_mem_filter) hf) (same _) (same _)
  | watchAdded _ hi _ _ =>
    exact tableStep_of_slots rfl (same _) (same _) (slot_or_mem (fun e he => ((mem_insertByTime _ _ _ _).mp he).imp_left (· ▸ hi)) hf)
      (same _)
  | trapAdded hi _ _ =>
    exact tableStep_of_slots rfl (same _) (same _) (same _)
      (slot_or_mem (fun e he => ((mem_insertByTime _ _ _ _).mp he).imp_left (· ▸ hi)) hf)
  | pendingChanged hs => exact tableStep_of_slots rfl (fun e he => .inr (mem_map_slots hs e he)) (same _) (same _) (same _)
  | settleChanged hs => exact tableStep_of_slots rfl (same _) (fun e he => .inr (mem_map_slots hs e he)) (same _) (same _)
  | trapChanged hs => exact tableStep_of_slots rfl (same _) (same _) (same _) (fun e he => .inr (mem_map_slots hs e he))
  | timerSettled => exact (settleTimer_same s).tableStep
  | watchFullSet => exact TableSame.tableStep ⟨rfl, rfl, rfl, rfl, rfl, rfl, rfl⟩

theorem SlotMoves.used {arms : Prop} {i : SlotNo} {s t : State} (h : SlotMoves arms i s t) (hf : (slotOf s i).state ≠ .free) :
    ∀ j, (slotOf s j).state ≠ .free → (slotOf t j).state ≠ .free := by
  induction h with
  | refl => exact fun _ hj => hj
  | tail _ hm ih => exact fun j hj => (hm.tableStep (ih i hf)).used j (ih j hj)

theorem SlotMoves.tableSound {arms : Prop} {i : SlotNo} {s t : State} (h : SlotMoves arms i s t) (hf : (slotOf s i).state ≠ .free)
    (hs : TableSound s) : TableSound t := by
  induction h with
  | refl => exact hs
  | tail hm hl ih => exact (hl.tableStep (SlotMoves.used hm hf i hf)).tableSound ih

/-! ## Nothing joins a timed list outside RUNNING -/

/-- The lists and the intake that are empty stay empty. -/
structure NoneAdded (s t : State) : Prop where
  pending : s.table.pending = [] → t.table.pending = []
  settle : s.table.settle = [] → t.table.settle = []
  watch : s.table.watch = [] → t.table.watch = []
  trap : s.table.trap = [] → t.table.trap = []
  intake : s.line.intake = [] → t.line.intake = []

theorem NoneAdded.refl (s : State) : NoneAdded s s := ⟨id, id, id, id, id⟩

theorem NoneAdded.trans {s t u : State} (h : NoneAdded s t) (k : NoneAdded t u) : NoneAdded s u :=
  ⟨k.pending ∘ h.pending, k.settle ∘ h.settle, k.watch ∘ h.watch, k.trap ∘ h.trap, k.intake ∘ h.intake⟩

theorem TableSame.noneAdded {s t : State} (h : TableSame s t) : NoneAdded s t :=
  ⟨h.pending.trans, h.settle.trans, h.watch.trans, h.trap.trans, h.intake.trans⟩

theorem filter_of_nil {α : Type} {f : α → Bool} {l : List α} (h : l = []) : l.filter f = [] := by rw [h, List.filter_nil]

theorem map_of_nil {α : Type} {f : α → α} {l : List α} (h : l = []) : l.map f = [] := by rw [h, List.map_nil]

theorem SlotMove.noneAdded {i : SlotNo} {s t : State} (h : SlotMove False i s t) (hr : isRunning s = false) : NoneAdded s t := by
  have stopped : ∀ {q : Prop}, isRunning s = true → q := fun h => by rw [hr] at h; cases h
  cases h with
  | slot _ => exact ⟨id, id, id, id, id⟩
  | logged n _ => exact ⟨id, id, id, id, id⟩
  | written _ => exact ⟨id, id, id, id, id⟩
  | recorded b => exact (offerRecord_same b s).noneAdded
  | noticed n o _ => exact (offerHigh_same _ _ _ s).noneAdded
  | revised n tr r => exact (offerRevision_same _ _ _ s).noneAdded
  | pendingRemoved => exact ⟨filter_of_nil, id, id, id, id⟩
  | settleRemoved => exact ⟨id, filter_of_nil, id, id, id⟩
  | watchRemoved => exact ⟨id, id, filter_of_nil, id, id⟩
  | trapRemoved => exact ⟨id, id, id, filter_of_nil, id⟩
  | pendingAdded _ _ h => exact stopped h
  | settleAdded _ _ h _ => exact stopped h
  | settleReplaced _ _ h => exact stopped h
  | watchAdded h _ _ _ => exact h.elim
  | trapAdded _ _ h => exact stopped h
  | pendingChanged _ => exact ⟨map_of_nil, id, id, id, id⟩
  | settleChanged _ => exact ⟨id, map_of_nil, id, id, id⟩
  | trapChanged _ => exact ⟨id, id, id, map_of_nil, id⟩
  | timerSettled => exact (settleTimer_same s).noneAdded
  | watchFullSet => exact ⟨id, id, id, id, id⟩

theorem SlotMoves.running {arms : Prop} {i : SlotNo} {s t : State} (h : SlotMoves arms i s t) : isRunning t = isRunning s :=
  isRunning_of_spares h.spares

theorem SlotMoves.noneAdded {i : SlotNo} {s t : State} (h : SlotMoves False i s t) (hr : isRunning s = false) : NoneAdded s t := by
  induction h with
  | refl => exact .refl s
  | tail hm hl ih => exact ih.trans (hl.noneAdded (SlotMoves.running hm ▸ hr))

theorem NoneAdded.timed {s t : State} (h : isRunning s = false → NoneAdded s t) (hr : isRunning t = isRunning s)
    (hs : TimedOnlyInRunning s) : TimedOnlyInRunning t where
  pending ht := (h (hr ▸ ht)).pending (hs.pending (hr ▸ ht))
  settle ht := (h (hr ▸ ht)).settle (hs.settle (hr ▸ ht))
  watch ht := (h (hr ▸ ht)).watch (hs.watch (hr ▸ ht))
  trap ht := (h (hr ▸ ht)).trap (hs.trap (hr ▸ ht))
  intake ht := (h (hr ▸ ht)).intake (hs.intake (hr ▸ ht))

/-- Moves on a slot that is in use in a sound table, in any station state. -/
theorem SlotMoves.keepsTable {i : SlotNo} {s t : State} (h : SlotMoves False i s t)
    (hf : TableSound s → (slotOf s i).state ≠ .free) : KeepsTable s t :=
  ⟨fun hs => h.tableSound (hf hs) hs, NoneAdded.timed h.noneAdded h.running⟩

end Sys2Proof.Machine
end

section
/-! PROOFS. The grants, the roster, the session and every other command keep the competitor table sound, and keep the timed lists and the
line intake empty outside RUNNING (chapters 6 and 10). -/

namespace Sys2Proof.Machine

/-! ## Slots in use -/

variable {s : State} {i : SlotNo} (p : Params)

theorem used_of_slotFor {t : Nat} (h : slotFor t s = some i) : (slotOf s i).state ≠ .free := (slotFor_some_holds t s i h).1

theorem used_of_pendingOf {e : PendingSector} (h : pendingOf s i = some e) (hs : TableSound s) : (slotOf s i).state ≠ .free :=
  pendingOf_slot h ▸ hs.pending e (List.mem_of_find?_eq_some h)

theorem used_of_settleOf {e : SettleEntry} (h : settleOf s i = some e) (hs : TableSound s) : (slotOf s i).state ≠ .free :=
  settleOf_slot h ▸ hs.settle e (List.mem_of_find?_eq_some h)

theorem used_of_watchOf {e : Watch} (h : watchOf s i = some e) (hs : TableSound s) : (slotOf s i).state ≠ .free :=
  watchOf_slot h ▸ hs.watch e (List.mem_of_find?_eq_some h)

theorem used_of_trapOf {e : TrapWait} (h : trapOf s i = some e) (hs : TableSound s) : (slotOf s i).state ≠ .free :=
  trapOf_slot h ▸ hs.trap e (List.mem_of_find?_eq_some h)

theorem used_of_slotOfPassing {e : LogEntry} (h : slotOfPassing s e = some i) : (slotOf s i).state ≠ .free := by
  obtain ⟨-, -, hh⟩ := slotOfPassing_some s e i h
  exact bne_iff_ne.mp (Bool.and_eq_true_iff.mp hh).1

/-! ## Slots given, loaded and freed -/

theorem not_holds_of_slotFor {t : Nat} (h : slotFor t s = none) (j : SlotNo) : holdsTransponder t (slotOf s j) = false :=
  (findSlot_eq_none _ s).mp h j

/-- A slot that is filled anew for a transponder that no slot holds. -/
theorem setSlot_given {x : Slot} {t : Nat} (hx : SlotSound x) (hu : x.state ≠ .free) (ht : x.transponder = some t)
    (hn : ∀ j, holdsTransponder t (slotOf s j) = false) (hs : TableSound s) : TableSound (setSlot i x s) := by
  have hother : ∀ j, j ≠ i → slotOf (setSlot i x s) j = slotOf s j := fun j hj => slotOf_setSlot_other s i j x hj
  have hused : ∀ j, (slotOf s j).state ≠ .free → (slotOf (setSlot i x s) j).state ≠ .free := fun j hj => by
    by_cases hi : j = i
    · rw [hi, slotOf_setSlot_same]
      exact hu
    · rw [hother j hi]
      exact hj
  have hnew : ∀ j u, j ≠ i → holdsTransponder u (slotOf (setSlot i x s) i) = true →
      holdsTransponder u (slotOf (setSlot i x s) j) = true → False := fun j u hj hi hk => by
    rw [slotOf_setSlot_same] at hi
    rw [hother j hj] at hk
    have hut : u = t := by
      have := (Bool.and_eq_true_iff.mp hi).2
      rw [ht] at this
      exact (Option.some.inj (beq_iff_eq.mp this)).symm
    rw [hut, hn j] at hk
    cases hk
  refine ⟨fun j => ?_, fun j k u hj hk => ?_, fun e he => hused _ (hs.pending e he), fun e he => hused _ (hs.settle e he),
    fun e he => hused _ (hs.watch e he), fun e he => hused _ (hs.trap e he)⟩
  · by_cases hi : j = i
    · rw [hi, slotOf_setSlot_same]
      exact hx
    · rw [hother j hi]
      exact hs.slots j
  · by_cases hji : j = i
    · by_cases hki : k = i
      · rw [hji, hki]
      · exact (hnew k u hki (hji ▸ hj) hk).elim
    · by_cases hki : k = i
      · exact (hnew j u hji (hki ▸ hk) hj).elim
      · rw [hother j hji] at hj
        rw [hother k hki] at hk
        exact hs.unique j k u hj hk

theorem setSlot_noneAdded (x : Slot) : NoneAdded s (setSlot i x s) := ⟨id, id, id, id, id⟩

theorem releaseSlots_same (gone : SlotNo → Bool) (s : State) : TableSame s (releaseSlots gone s) := tableSame_of rfl rfl rfl rfl

theorem allocatedSlot_sound (t : Nat) (now : Time) : SlotSound (allocatedSlot t now) := ⟨nofun, nofun, fun _ => rfl⟩

theorem rosteredSlot_sound (t c : Nat) : SlotSound (rosteredSlot t c) := ⟨nofun, fun _ => rfl, fun _ => rfl⟩

theorem allocate_keepsTable {t : Nat} (hn : slotFor t s = none) : KeepsTable s (setSlot i (allocatedSlot t s.now) s) :=
  ⟨setSlot_given (allocatedSlot_sound t s.now) nofun rfl (not_holds_of_slotFor hn),
    NoneAdded.timed (fun _ => setSlot_noneAdded _) rfl⟩

theorem reclaimFor_keepsTable {t : Nat} (hn : slotFor t s = none) : KeepsTable s (reclaimFor t i s) := by
  have hr := releaseSlots_same (fun j => j == i) s
  have hn' : slotFor t (releaseSlots (fun j => j == i) s) = none := (findSlot_congr _ _ _ hr.slots).trans hn
  refine (hr.keepsTable.trans (allocate_keepsTable (i := i) hn')).trans (TableSame.keepsTable ?_)
  exact ⟨rfl, rfl, rfl, rfl, rfl, rfl, rfl⟩

theorem giveSlot_keepsTable {t : Nat} {r : State} (hn : slotFor t s = none) (h : giveSlot t s = some (i, r)) :
    KeepsTable s r ∧ (slotOf r i).state ≠ .free := by
  obtain ⟨-, rfl⟩ | ⟨-, -, rfl⟩ := giveSlot_cases t s r i h
  · exact ⟨allocate_keepsTable hn, by rw [slotOf_setSlot_same]; nofun⟩
  · refine ⟨reclaimFor_keepsTable hn, ?_⟩
    show (slotOf (setSlot i (allocatedSlot t s.now) (releaseSlots (fun j => j == i) s)) i).state ≠ .free
    rw [slotOf_setSlot_same]
    nofun

theorem slotToProcess_keepsTable {t : Nat} {r : State} (h : slotToProcess p t s = some (i, r)) :
    KeepsTable s r ∧ (slotOf r i).state ≠ .free := by
  obtain ⟨hf, rfl⟩ | ⟨hn, -, hg⟩ := slotToProcess_cases p t s r i h
  · exact ⟨.refl r, used_of_slotFor hf⟩
  · exact giveSlot_keepsTable hn hg

theorem adoptedSlot_sound {x : Slot} {c : Nat} (hf : x.state ≠ .free) (h : SlotSound x) : SlotSound (adoptedSlot c x) :=
  ⟨fun hx => absurd hx hf, fun _ => rfl, fun _ => h.held hf⟩

theorem grantRosterPut_keepsTable (t c : Nat) (s : State) : KeepsTable s (grantRosterPut t c s).2 := by
  unfold grantRosterPut
  split
  · rename_i i hi
    have hu := used_of_slotFor hi
    split
    · exact .refl s
    · exact ⟨(setSlot_tableStep_of (x := adoptedSlot c (slotOf s i)) hu hu rfl (adoptedSlot_sound hu)).tableSound, NoneAdded.timed (fun _ => setSlot_noneAdded _) rfl⟩
  · rename_i hn
    split
    · exact ⟨setSlot_given (rosteredSlot_sound t c) nofun rfl (not_holds_of_slotFor hn),
        NoneAdded.timed (fun _ => setSlot_noneAdded _) rfl⟩
    · exact .refl s

theorem emptySlot_sound : SlotSound Slot.empty := ⟨fun _ => rfl, nofun, fun h => (h rfl).elim⟩

theorem forall_mem_of_nil {α : Type} {P : α → Prop} {l : List α} (h : l = []) : ∀ e ∈ l, P e := by
  rw [h]
  exact List.forall_mem_nil P

/-- A table whose timed lists are empty. -/
theorem tableSound_of_empty {t : State} (hs : ∀ j, SlotSound (slotOf t j))
    (hu : ∀ j k u, holdsTransponder u (slotOf t j) = true → holdsTransponder u (slotOf t k) = true → j = k)
    (h1 : t.table.pending = []) (h2 : t.table.settle = []) (h3 : t.table.watch = []) (h4 : t.table.trap = []) : TableSound t :=
  ⟨hs, hu, forall_mem_of_nil h1, forall_mem_of_nil h2, forall_mem_of_nil h3, forall_mem_of_nil h4⟩

/-- Every slot is FREE and nothing is timed. -/
theorem tableSound_of_free {t : State} (hs : ∀ j, slotOf t j = Slot.empty) (h1 : t.table.pending = []) (h2 : t.table.settle = [])
    (h3 : t.table.watch = []) (h4 : t.table.trap = []) : TableSound t :=
  tableSound_of_empty (fun j => hs j ▸ emptySlot_sound) (fun j _ u hj => by rw [hs j] at hj; cases hj) h1 h2 h3 h4

theorem clearRoster_slot (s : State) (j : SlotNo) : slotOf (clearRoster s) j = Slot.empty := by
  simp [slotOf, clearRoster, freedTable]

theorem clearRoster_keepsTable (s : State) : KeepsTable s (clearRoster s) :=
  ⟨fun _ => tableSound_of_free (clearRoster_slot s) rfl rfl rfl rfl,
    NoneAdded.timed (fun _ => ⟨fun _ => rfl, fun _ => rfl, fun _ => rfl, fun _ => rfl, id⟩) rfl⟩

/-! ## Passings, items and expiries -/

theorem offerPassing_same (n transponder : Nat) (instant : Time) (w : Flags) (s : State) :
    TableSame s (offerPassing n transponder instant w s) := offerHigh_same _ _ _ s

theorem countUntracked_same (s : State) : TableSame s { s with table := { s.table with untracked := countUp s.table.untracked } } :=
  ⟨rfl, rfl, rfl, rfl, rfl, rfl, rfl⟩

theorem processUntracked_same (x : NewPassing) (s : State) : TableSame s (processUntracked x s) :=
  ((writeLog_same x.number _ s).trans (countUntracked_same _)).trans
    ((offerRecord_same (passingRec x none 0 none (addFlag x.flags .untracked)) _).trans (offerPassing_same _ _ _ _ _))

theorem processPassing_keepsTable (x : NewPassing) (s : State) : KeepsTable s (processPassing p x s) := by
  unfold processPassing
  split
  · rename_i i t h
    obtain ⟨hk, hu⟩ := slotToProcess_keepsTable p h
    exact hk.trans ((processInSlot_moves p .refl).keepsTable fun _ => hu)
  · exact (processUntracked_same x s).keepsTable

theorem takeMark_keepsTable (m : LocalItem) (s : State) : KeepsTable s (takeMark p m s) := by
  unfold takeMark
  split
  · rename_i ha
    split
    · exact .refl s
    · rename_i i hi
      exact (takeTrapItem_moves p .refl (isRunning_of_trapActive p ha)).keepsTable fun _ => used_of_slotFor hi
  · exact .refl s

theorem takeLocal_keepsTable (x : LocalItem) (s : State) : KeepsTable s (takeLocal p x s) := by
  unfold takeLocal
  split
  · exact processPassing_keepsTable p _ s
  · exact takeMark_keepsTable p x s

/-- Moves on a slot in use, an operation that leaves the table, and further moves on the slot. -/
theorem keepsTable_of_chain {t u v : State} (h : SlotMoves False i s t) (hs : TableSame t u) (k : SlotMoves False i u v)
    (hf : TableSound s → (slotOf s i).state ≠ .free) : KeepsTable s v := by
  have ht := (h.keepsTable hf).trans hs.keepsTable
  refine ⟨fun hsound => k.tableSound ?_ (ht.table hsound), NoneAdded.timed k.noneAdded k.running ∘ ht.timed⟩
  exact hs.slotOf i ▸ h.used (hf hsound) i (hf hsound)

theorem makeForecast_chain (i : SlotNo) (w : Watch) (t : Time) (s : State) :
    ∃ u, TableSame s u ∧ SlotMoves False i u (makeForecast p i w t s) := by
  have hd := drawNumber_same s
  unfold makeForecast
  split
  · rename_i u hdraw
    rw [hdraw] at hd
    exact ⟨u, hd, .refl⟩
  · rename_i n u hdraw
    rw [hdraw] at hd
    have hp : SlotMoves False i u (processInSlot p i (forecastPassing u i w n t) u) := processInSlot_moves p .refl
    exact ⟨u, hd, setSlot_moves hp (slotKept_of_eq rfl rfl rfl rfl rfl)⟩

theorem expireWatch_keepsTable (i : SlotNo) (s : State) : KeepsTable s (expireWatch p i s) := by
  unfold expireWatch
  split
  · exact .refl s
  · rename_i w hw
    have hr : SlotMoves False i s (removeWatch i s) := removeWatch_moves .refl
    dsimp only
    split
    · exact hr.keepsTable (used_of_watchOf hw)
    · split
      · exact hr.keepsTable (used_of_watchOf hw)
      · split
        · obtain ⟨u, hu, hm⟩ := makeForecast_chain p i w ‹Time› (removeWatch i s)
          exact keepsTable_of_chain hr hu hm (used_of_watchOf hw)
        · exact hr.keepsTable (used_of_watchOf hw)

theorem expirePending_keepsTable (i : SlotNo) (s : State) : KeepsTable s (expirePending p i s) := by
  cases h : pendingOf s i with
  | none =>
    unfold expirePending
    rw [h]
    exact .refl s
  | some e => exact (expirePending_moves p .refl).keepsTable (used_of_pendingOf h)

theorem expireSettle_keepsTable (i : SlotNo) (s : State) : KeepsTable s (expireSettle p i s) := by
  cases h : settleOf s i with
  | none =>
    unfold expireSettle
    rw [h]
    exact .refl s
  | some e => exact (expireSettle_moves p .refl).keepsTable (used_of_settleOf h)

theorem expireTrap_keepsTable (i : SlotNo) (s : State) : KeepsTable s (expireTrap i s) := by
  cases h : trapOf s i with
  | none =>
    unfold expireTrap
    rw [h]
    exact .refl s
  | some e => exact (expireTrap_moves .refl).keepsTable (used_of_trapOf h)

/-! ## Items of the line intake queue -/

theorem dropFeeder_same (s : State) : TableSame s (dropFeeder p s) := by
  unfold dropFeeder
  split
  · exact ⟨rfl, rfl, rfl, rfl, rfl, rfl, rfl⟩
  · exact .refl s

theorem takeFeederPassing_tableSound (t : Nat) (f : FeederRecord) {s : State} (hs : TableSound s) :
    TableSound (takeFeederPassing p t f s) := by
  unfold takeFeederPassing
  split
  · exact hs
  · split
    · rename_i i u h
      obtain ⟨hk, hu⟩ := slotToProcess_keepsTable p h
      exact (feederInSlot_moves p (touchSlot_moves .refl)).tableSound hu (hk.table hs)
    · exact (dropFeeder_same p s).keepsTable.table hs

theorem takeFeederRevision_tableSound (tag : Tag) (t : Nat) (r : FeederRevision) {s : State} (hs : TableSound s) :
    TableSound (takeFeederRevision p tag t r s) := by
  unfold takeFeederRevision
  split
  · exact hs
  · exact (reviseInSlot_moves p .refl).tableSound (used_of_slotFor ‹_›) hs

theorem takeIntake_tableSound (x : IntakeItem) {s : State} (hs : TableSound s) : TableSound (takeIntake p x s) := by
  unfold takeIntake
  split
  · exact takeFeederPassing_tableSound p _ _ hs
  · exact takeFeederRevision_tableSound p _ _ _ hs
  · exact takeFeederRevision_tableSound p _ _ _ hs

/-! ## Host corrections -/

theorem withdrawOutside_same (n transponder : Nat) (b : RecordBody) (s : State) :
    TableSame s (withdrawOutside n transponder b s) :=
  (updateLog_same n _ s).trans ((offerRevision_same _ _ _ _).trans (offerRecord_same b _))

theorem grantWithdraw_keepsTable (n : Nat) (s : State) : KeepsTable s (grantWithdraw p n s).2 := by
  unfold grantWithdraw
  split
  · exact .refl s
  · exact .refl s
  · rename_i e _
    split
    · exact .refl s
    · dsimp only
      split
      · exact (withdrawOutside_same _ _ _ s).keepsTable
      · rename_i i hi
        exact (withdrawInSlot_moves p (withdrawOutside_moves .refl)).keepsTable fun _ => used_of_slotOfPassing hi

theorem grantRetime_keepsTable (n : Nat) (t : Time) (s : State) : KeepsTable s (grantRetime p n t s).2 := by
  unfold grantRetime
  split
  · exact .refl s
  · exact .refl s
  · split
    · exact .refl s
    · rename_i i hi
      split
      · exact .refl s
      · split
        · exact .refl s
        · exact (retimePassing_moves p .refl).keepsTable fun _ => used_of_slotOfPassing hi

theorem grantMark_keepsTable (t : Nat) (u : Time) (s : State) : KeepsTable s (grantMark p t u s).2 := by
  have hd := drawNumber_same s
  unfold grantMark
  split
  · exact .refl s
  · split
    · rename_i r h
      rw [h] at hd
      exact hd.keepsTable
    · rename_i n r h
      rw [h] at hd
      exact hd.keepsTable.trans (processPassing_keepsTable p _ r)

/-! ## Sessions -/

theorem sessionSlot_sound {x : Slot} (h : SlotSound x) : SlotSound (sessionSlot x) := by
  unfold sessionSlot
  split
  · rename_i hr
    have hx : x.state ≠ .free := fun hf => by
      rw [h.free hf] at hr
      cases hr
    exact ⟨nofun, fun _ => rfl, fun _ => h.held hx⟩
  · exact emptySlot_sound

theorem sessionSlot_holds {x : Slot} {u : Nat} (h : SlotSound x) (hu : holdsTransponder u (sessionSlot x) = true) :
    holdsTransponder u x = true := by
  unfold sessionSlot at hu
  split at hu
  · rename_i hr
    have hx : x.state ≠ .free := fun hf => by
      rw [h.free hf] at hr
      cases hr
    exact Bool.and_eq_true_iff.mpr ⟨bne_iff_ne.mpr hx, (Bool.and_eq_true_iff.mp hu).2⟩
  · cases hu

theorem startClearing_table (s : State) : (startClearing s).table = sessionTable s.table := by
  show (settleLine _).table = _
  rw [(settleLine_frame _).1]

theorem startClearing_slot (s : State) (j : SlotNo) : slotOf (startClearing s) j = sessionSlot (slotOf s j) := by
  show (startClearing s).table.slots[j] = _
  rw [startClearing_table]
  exact mapSlots_get _ _ j

theorem startClearing_keepsTable (s : State) : KeepsTable s (startClearing s) := by
  have ht := startClearing_table s
  have h1 : (startClearing s).table.pending = [] := ht ▸ rfl
  have h2 : (startClearing s).table.settle = [] := ht ▸ rfl
  have h3 : (startClearing s).table.watch = [] := ht ▸ rfl
  have h4 : (startClearing s).table.trap = [] := ht ▸ rfl
  refine ⟨fun hs => tableSound_of_empty (fun j => ?_) (fun j k u hj hk => ?_) h1 h2 h3 h4, fun _ =>
    ⟨fun _ => h1, fun _ => h2, fun _ => h3, fun _ => h4, fun _ => (settleLine_intake _).trans rfl⟩⟩
  · rw [startClearing_slot]
    exact sessionSlot_sound (hs.slots j)
  · rw [startClearing_slot] at hj hk
    exact hs.unique j k u (sessionSlot_holds (hs.slots j) hj) (sessionSlot_holds (hs.slots k) hk)

/-- Sector records issued one after another, each about a slot in use. -/
theorem foldl_issue_sound {α : Type} (r : State → α → SectorRec) (slot : α → SlotNo) (hr : ∀ u e, (r u e).slot = slot e)
    (l : List α) {s : State} (hl : ∀ e ∈ l, (slotOf s (slot e)).state ≠ .free) (hs : TableSound s) :
    TableSound (l.foldl (fun u e => issueSector p (r u e) u) s) := by
  induction l generalizing s with
  | nil => exact hs
  | cons e l ih =>
    have hu : (slotOf s (slot e)).state ≠ .free := hl e List.mem_cons_self
    have hm : SlotMoves False (slot e) s (issueSector p (r s e) s) := issueSector_moves p .refl (hr s e)
    exact ih (fun d hd => hm.used hu _ (hl d (List.mem_cons_of_mem e hd))) (hm.tableSound hu hs)

theorem foldl_issue_noneAdded {α : Type} (r : State → α → SectorRec) (l : List α) {s : State} (hr : isRunning s = false) :
    NoneAdded s (l.foldl (fun u e => issueSector p (r u e) u) s) ∧
      isRunning (l.foldl (fun u e => issueSector p (r u e) u) s) = false := by
  induction l generalizing s with
  | nil => exact ⟨.refl s, hr⟩
  | cons e l ih =>
    have hm : SlotMoves False (r s e).slot s (issueSector p (r s e) s) := issueSector_moves p .refl rfl
    obtain ⟨hn, hrun⟩ := ih (s := issueSector p (r s e) s) (hm.running.trans hr)
    exact ⟨(hm.noneAdded hr).trans hn, hrun⟩

/-- A list of the table is emptied. -/
theorem tableSound_drop {t : State} {b : TableBlock} (hs : TableSound t) (hslots : b.slots = t.table.slots)
    (hp : b.pending = t.table.pending ∨ b.pending = []) (hse : b.settle = t.table.settle ∨ b.settle = [])
    (hw : b.watch = t.table.watch ∨ b.watch = []) (htr : b.trap = t.table.trap ∨ b.trap = []) :
    TableSound { t with table := b } := by
  have keep : ∀ {α : Type} {slot : α → SlotNo} {l m : List α}, (l = m ∨ l = []) → ∀ e ∈ l,
      (slotOf t (slot e)).state ≠ .free ∨ slot e ∈ m.map slot := by
    intro α slot l m h e he
    rcases h with rfl | rfl
    · exact .inr (List.mem_map_of_mem he)
    · cases he
  exact (tableStep_of_slots hslots (keep hp) (keep hse) (keep hw) (keep htr)).tableSound hs

theorem haltPending_tableSound {s : State} (hs : TableSound s) : TableSound (haltPending p s) :=
  tableSound_drop (foldl_issue_sound p (fun u e => pendingEndRec u e .halted) (·.slot) (fun _ _ => rfl) _ hs.pending hs) rfl
    (.inr rfl) (.inl rfl) (.inl rfl) (.inl rfl)

theorem haltSettle_tableSound {s : State} (hs : TableSound s) : TableSound (haltSettle p s) :=
  tableSound_drop (foldl_issue_sound p (earlyRec p) (·.slot) (fun u e => settleRec_slot p u e) _ hs.settle hs) rfl
    (.inl rfl) (.inr rfl) (.inl rfl) (.inl rfl)

theorem enterHalting_running (s : State) : isRunning (enterHalting s) = false := by
  unfold isRunning stationState enterHalting
  cases s.station.conf <;> rfl

theorem haltPending_noneAdded {s : State} (hr : isRunning s = false) :
    NoneAdded s (haltPending p s) ∧ isRunning (haltPending p s) = false := by
  obtain ⟨hn, h⟩ := foldl_issue_noneAdded p (fun u e => pendingEndRec u e .halted) s.table.pending hr
  exact ⟨hn.trans ⟨fun _ => rfl, id, id, id, id⟩, h⟩

theorem haltSettle_noneAdded {s : State} (hr : isRunning s = false) :
    NoneAdded s (haltSettle p s) ∧ isRunning (haltSettle p s) = false := by
  obtain ⟨hn, h⟩ := foldl_issue_noneAdded p (earlyRec p) s.table.settle hr
  exact ⟨hn.trans ⟨id, fun _ => rfl, id, id, id⟩, h⟩

theorem haltPending_pending (s : State) : (haltPending p s).table.pending = [] := rfl

theorem haltSettle_settle (s : State) : (haltSettle p s).table.settle = [] := rfl

theorem dropTraps_running (s : State) : isRunning (dropTraps s) = isRunning s := rfl

/-- The station has left RUNNING and nothing is timed. -/
structure Stopped (t : State) : Prop where
  running : isRunning t = false
  pending : t.table.pending = []
  settle : t.table.settle = []
  watch : t.table.watch = []
  trap : t.table.trap = []
  intake : t.line.intake = []

theorem Stopped.of_same {s t : State} (h : TableSame s t) (hs : Stopped s) : Stopped t :=
  ⟨h.running.trans hs.running, h.pending.trans hs.pending, h.settle.trans hs.settle, h.watch.trans hs.watch, h.trap.trans hs.trap,
    h.intake.trans hs.intake⟩

theorem stopped_of_drops {s : State} (hr : isRunning s = false) (hp : s.table.pending = []) (hs : s.table.settle = [])
    (ht : s.table.trap = []) : Stopped (dropIntake (dropWatches s)) := ⟨hr, hp, hs, rfl, ht, rfl⟩

/-- HALT empties the timed lists and the intake, and leaves RUNNING. -/
theorem haltSession_stopped (s : State) : Stopped (haltSession p s) := by
  have hg : isRunning (dropTraps (haltGatherer p (enterHalting s))) = false :=
    (haltGatherer_same p (enterHalting s)).running.trans (enterHalting_running s)
  obtain ⟨n1, r1⟩ := haltPending_noneAdded p hg
  obtain ⟨n2, r2⟩ := haltSettle_noneAdded p r1
  exact (stopped_of_drops r2 (n2.pending (haltPending_pending p _)) (haltSettle_settle p _) (n2.trap (n1.trap rfl))).of_same
    (finishHalting_same _)

theorem haltSession_keepsTable (s : State) : KeepsTable s (haltSession p s) := by
  have h := haltSession_stopped p s
  refine ⟨fun hs => ?_, fun _ => ⟨fun _ => h.pending, fun _ => h.settle, fun _ => h.watch, fun _ => h.trap, fun _ => h.intake⟩⟩
  have he : TableSound (enterHalting s) := tableSound_drop (t := enterHalting s) ⟨hs.slots, hs.unique, hs.pending, hs.settle, hs.watch, hs.trap⟩ rfl (.inl rfl)
    (.inl rfl) (.inl rfl) (.inl rfl)
  have hd : TableSound (dropTraps (haltGatherer p (enterHalting s))) :=
    tableSound_drop ((haltGatherer_same p _).keepsTable.table he) rfl (.inl rfl) (.inl rfl) (.inl rfl) (.inr rfl)
  have hw : TableSound (dropWatches (haltSettle p (haltPending p (dropTraps (haltGatherer p (enterHalting s)))))) :=
    tableSound_drop (haltSettle_tableSound p (haltPending_tableSound p hd)) rfl (.inl rfl) (.inl rfl) (.inr rfl) (.inl rfl)
  exact (finishHalting_same _).keepsTable.table ⟨hw.slots, hw.unique, hw.pending, hw.settle, hw.watch, hw.trap⟩

/-! ## The grants -/

theorem grantTo_keepsTable (r : Requester) {work : Params → State → State} (hw : ∀ p s, KeepsTable s (work p s)) (s : State) :
    KeepsTable s (grantTo r work s) := by
  obtain ⟨p, -, -, -, h⟩ | h := grantTo_cases r work s <;> rw [h]
  · exact ((beginGrant_same r s).keepsTable.trans (hw p _)).trans (endGrant_same s _).keepsTable
  · exact .refl s

theorem localWork_keepsTable (s : State) : KeepsTable s (localWork p s) := by
  unfold localWork
  split
  · exact .refl s
  · exact (popLocal_same p s).keepsTable.trans (takeLocal_keepsTable p _ _)

/-- A LINE grant acts on the intake, which is empty outside RUNNING. -/
theorem lineWork_keepsTable (s : State) : KeepsTable s (lineWork p s) := by
  unfold lineWork
  split
  · exact .refl s
  · rename_i x xs hi
    constructor
    · exact fun hs => takeIntake_tableSound p x ⟨hs.slots, hs.unique, hs.pending, hs.settle, hs.watch, hs.trap⟩
    · intro hs
      have hr : isRunning s = true := by
        cases h : isRunning s with
        | true => rfl
        | false =>
          have := hs.intake h
          rw [hi] at this
          cases this
      exact timed_of_running ((isRunning_of_spares (takeIntake_spares p x _)).trans hr)

theorem takeDue_keepsTable (x : DueItem) (s : State) : KeepsTable s (takeDue p x s) := by
  unfold takeDue
  cases x.kind with
  | pending => exact expirePending_keepsTable p _ s
  | settle => exact expireSettle_keepsTable p _ s
  | watch => exact expireWatch_keepsTable p _ s
  | trap => exact expireTrap_keepsTable _ s

theorem timerWork_keepsTable (s : State) : KeepsTable s (timerWork p s) := by
  unfold timerWork
  split
  · exact .refl s
  · exact takeDue_keepsTable p _ s

theorem carryOut_keepsTable (cmd : PortCommand) (s : State) : KeepsTable s (carryOut p cmd s).2 := by
  cases cmd with
  | slotRead i => exact .refl s
  | snapshot first count => exact .refl s
  | rosterPut t c => exact grantRosterPut_keepsTable t c s
  | rosterClear => exact clearRoster_keepsTable s
  | withdraw n => exact grantWithdraw_keepsTable p n s
  | retime n t => exact grantRetime_keepsTable p n t s
  | mark t u => exact grantMark_keepsTable p t u s
  | startSession => exact startClearing_keepsTable s
  | halt =>
    show KeepsTable s (grantHalt p s).2
    unfold grantHalt
    split
    · exact haltSession_keepsTable p s
    · exact .refl s

theorem setPort_same (x : PortState) (s : State) : TableSame s (setPort x s) := tableSame_of rfl rfl rfl rfl

theorem portWork_keepsTable (s : State) : KeepsTable s (portWork p s) := by
  unfold portWork
  split
  · exact .refl s
  · exact (carryOut_keepsTable p _ s).trans (setPort_same _ _).keepsTable

/-! ## Resets, the configuration and the end of CLEARING -/

theorem initialTable_slot {t : State} (h : t.table = .initial) (j : SlotNo) : slotOf t j = Slot.empty := by
  unfold slotOf
  rw [h]
  simp [TableBlock.initial]

theorem Initial.tableSound {t : State} (h : Initial t) : TableSound t :=
  tableSound_of_free (initialTable_slot h.table) (by rw [h.table]; rfl) (by rw [h.table]; rfl) (by rw [h.table]; rfl)
    (by rw [h.table]; rfl)

theorem Initial.timed {t : State} (h : Initial t) : TimedOnlyInRunning t :=
  ⟨fun _ => by rw [h.table]; rfl, fun _ => by rw [h.table]; rfl, fun _ => by rw [h.table]; rfl, fun _ => by rw [h.table]; rfl,
    fun _ => h.intake⟩

theorem takeConfig_same {asked : Params} {levels : PerChannel Nat} (hc : s.station.conf = none) :
    TableSame s (takeConfig asked levels s) := by
  refine ⟨rfl, rfl, rfl, rfl, rfl, rfl, ?_⟩
  unfold isRunning stationState
  rw [hc]
  rfl

theorem configure_same {asked : Params} {levels : PerChannel Nat} (hc : s.station.conf = none) :
    TableSame s (judgeAttn (startSchedules (clampParams asked) (takeConfig asked levels s))) :=
  (takeConfig_same hc).trans <|
    ((offerTime_unit _).tableSame.trans ((scheduleStatus_unit _).tableSame.trans (offerStatus_unit _ _).tableSame)).trans
      (tableSame_of rfl rfl rfl rfl)

theorem enterRunning_keepsTable (h : inState s .clearing = true) : KeepsTable s (enterRunning s) := by
  have hr : isRunning (enterRunning s) = true := by
    unfold inState stationState at h
    unfold isRunning stationState enterRunning
    cases hc : s.station.conf with
    | none => rw [hc] at h; cases h
    | some p => rfl
  exact ⟨fun hs => ⟨hs.slots, hs.unique, hs.pending, hs.settle, hs.watch, hs.trap⟩, fun _ => timed_of_running hr⟩

/-! ## Frames received and entries due -/

theorem takeFeederItem_keepsTable (o : Nat) (x : IntakeItem) (s : State) : KeepsTable s (takeFeederItem p o x s) := by
  unfold takeFeederItem
  split
  · rename_i h
    rw [offerIntake_eq]
    exact ⟨fun hs => ⟨hs.slots, hs.unique, hs.pending, hs.settle, hs.watch, hs.trap⟩,
      fun _ => timed_of_running (Bool.and_eq_true_iff.mp h).1⟩
  · exact .refl s

theorem takeFrame_keepsTable (n : RxNotice) (t : Time) (s : State) : KeepsTable s (takeFrame p n t s) := by
  unfold takeFrame
  split
  · exact .refl s
  · split
    · exact (offerFault_same _ _ s).keepsTable
    · unfold dispatchNotice
      split
      · exact (takeTime_same _ _ _ _ _ _).keepsTable
      · split
        · exact .refl s
        · exact (takeStatus_same _ _ _ _).keepsTable
      · exact takeFeederItem_keepsTable _ _ _ _
      · exact takeFeederItem_keepsTable _ _ _ _

/-! ## Rows -/

/-- The next state keeps the table sound and the timed lists to RUNNING. -/
def NextKeepsTable (o : Host.Outcome State Fault Refusal) (s : State) : Prop := ∀ t, o = .next t → KeepsTable s t

theorem next_keepsTable {t : State} (h : KeepsTable s t) : NextKeepsTable (.next t) s := fun u hu => by
  cases hu
  exact h

theorem next_same {t : State} (h : TableSame s t) : NextKeepsTable (.next t) s := next_keepsTable h.keepsTable

theorem stays_keepsTable (s : State) : NextKeepsTable (.next s) s := next_keepsTable (.refl s)

theorem ite_keepsTable {c : Prop} [Decidable c] {t : State} (h : c → KeepsTable s t) :
    NextKeepsTable (if c then .next t else .next s) s := by
  split
  · exact next_keepsTable (h ‹c›)
  · exact stays_keepsTable s

theorem ite_same {c : Prop} [Decidable c] {t : State} (h : TableSame s t) : NextKeepsTable (if c then .next t else .next s) s :=
  ite_keepsTable fun _ => h.keepsTable

end Sys2Proof.Machine
end

section
/-! PROOFS. Every command keeps the competitor table sound, and the timed lists and the intake empty outside RUNNING. -/

namespace Sys2Proof.Machine

theorem burstEnd_table (ch : Channel) (b : Burst) (s : State) : NextKeepsTable (execBurstEnd ch b s) s := by
  unfold execBurstEnd
  split
  · exact stays_keepsTable s
  · exact ite_same (tableSame_of rfl rfl rfl rfl)

theorem hitDelivery_table (ch : Channel) (l : List (Channel × Time)) (s : State) : NextKeepsTable (execHitDelivery ch l s) s := by
  unfold execHitDelivery
  split
  · exact ite_same (deliverHit_same _ _ s)
  · exact stays_keepsTable s

theorem risingCrossing_table (ch : Channel) (s : State) : NextKeepsTable (execRisingCrossing ch s) s := by
  unfold execRisingCrossing
  split
  · exact stays_keepsTable s
  · exact ite_same (tableSame_of rfl rfl rfl rfl)

theorem fallingCrossing_table (ch : Channel) (s : State) : NextKeepsTable (execFallingCrossing ch s) s := by
  unfold execFallingCrossing
  split
  · exact stays_keepsTable s
  · exact ite_same (tableSame_of rfl rfl rfl rfl)

theorem filterExpiry_table (ch : Channel) (s : State) : NextKeepsTable (execFilterExpiry ch s) s := by
  unfold execFilterExpiry
  split
  · exact stays_keepsTable s
  · exact ite_same (tripGuard_same _ ch s)

theorem quietExpiry_table (ch : Channel) (s : State) : NextKeepsTable (execQuietExpiry ch s) s := by
  unfold execQuietExpiry
  split
  · exact stays_keepsTable s
  · exact ite_same (tableSame_of rfl rfl rfl rfl)

theorem guardRearm_table (code : Nat) (s : State) : NextKeepsTable (execGuardRearm code s) s := by
  unfold execGuardRearm
  split
  · exact next_same (respond_same _ s)
  · exact next_same (respond_same _ s)
  · split
    · exact next_same (rearmChannel_same _ _ s)
    · exact next_same (respond_same _ s)

theorem silenceExpiry_table (k : PassKey) (s : State) : NextKeepsTable (execSilenceExpiry k s) s := by
  unfold execSilenceExpiry
  split
  · exact ite_same (takeSilence_same _ k s)
  · exact stays_keepsTable s

theorem dwellExpiry_table (k : PassKey) (s : State) : NextKeepsTable (execDwellExpiry k s) s := by
  unfold execDwellExpiry
  split
  · exact ite_same (closePass_same _ _ k s)
  · exact stays_keepsTable s

theorem staleExpiry_table (n : Nat) (s : State) : NextKeepsTable (execStaleExpiry n s) s := by
  unfold execStaleExpiry
  split
  · exact ite_same (goStale_same _ n _ s)
  · exact stays_keepsTable s

theorem timeIntervalExpiry_table (s : State) : NextKeepsTable (execTimeIntervalExpiry s) s :=
  ite_same (TableSame.trans (t := { s with clock := { s.clock with timeDue := none } }) (tableSame_of rfl rfl rfl rfl)
    (offerTime_unit _).tableSame)

theorem statusIntervalExpiry_table (s : State) : NextKeepsTable (execStatusIntervalExpiry s) s := by
  unfold execStatusIntervalExpiry
  split
  · exact stays_keepsTable s
  · exact ite_same ((scheduleStatus_unit s).tableSame.trans (offerStatus_unit _ _).tableSame)

theorem statusPromotion_table (s : State) : NextKeepsTable (execStatusPromotion s) s := by
  unfold execStatusPromotion
  split
  · exact stays_keepsTable s
  · exact next_same (setQueue_unit _ s).tableSame

theorem carrierRise_table (s : State) : NextKeepsTable (execCarrierRise s) s := by
  unfold execCarrierRise
  split
  · exact stays_keepsTable s
  · exact next_same (tableSame_of rfl rfl rfl rfl)

theorem attemptStart_table (s : State) : NextKeepsTable (execAttemptStart s) s := by
  unfold execAttemptStart
  split
  · exact ite_same (beginAttempt_unit _ _ _ s).tableSame
  · exact stays_keepsTable s

theorem attemptComplete_table (s : State) : NextKeepsTable (execAttemptComplete s) s := by
  unfold execAttemptComplete
  split
  · exact next_same (completeAttempt_unit _ s).tableSame
  · exact stays_keepsTable s

theorem collision_table (draw : Nat) (s : State) : NextKeepsTable (execCollision draw s) s := by
  unfold execCollision
  split
  · exact next_same (collide_unit _ draw s).tableSame
  · exact stays_keepsTable s

theorem frameReceived_table (signal : List Bool) (t : Time) (s : State) : NextKeepsTable (execFrameReceived signal t s) s := by
  unfold execFrameReceived
  split
  · exact next_keepsTable (takeFrame_keepsTable _ _ t s)
  · exact stays_keepsTable s

/-- The entries of the timed lists change and stay about their slots. -/
theorem keepsTable_of_slots {s : State} {b : TableBlock} (hs : b.slots = s.table.slots)
    (hp : b.pending.map (·.slot) = s.table.pending.map (·.slot)) (he : b.settle.map (·.slot) = s.table.settle.map (·.slot))
    (hw : b.watch.map (·.slot) = s.table.watch.map (·.slot)) (ht : b.trap.map (·.slot) = s.table.trap.map (·.slot)) :
    KeepsTable s { s with table := b } where
  table := (tableStep_of_slots hs (fun _ h => .inr (hp ▸ List.mem_map_of_mem h)) (fun _ h => .inr (he ▸ List.mem_map_of_mem h))
    (fun _ h => .inr (hw ▸ List.mem_map_of_mem h)) (fun _ h => .inr (ht ▸ List.mem_map_of_mem h))).tableSound
  timed := NoneAdded.timed (fun _ =>
    ⟨fun h => List.map_eq_nil_iff.mp (hp.trans (List.map_eq_nil_iff.mpr h)), fun h => List.map_eq_nil_iff.mp (he.trans (List.map_eq_nil_iff.mpr h)),
      fun h => List.map_eq_nil_iff.mp (hw.trans (List.map_eq_nil_iff.mpr h)), fun h => List.map_eq_nil_iff.mp (ht.trans (List.map_eq_nil_iff.mpr h)), id⟩) rfl

theorem map_slots_eq {α : Type} {slot : α → SlotNo} {f : α → α} (hf : ∀ e, slot (f e) = slot e) (l : List α) :
    (l.map f).map slot = l.map slot := by
  rw [List.map_map]
  exact List.map_congr_left fun e _ => hf e

theorem pairWaitDue_table (i : SlotNo) (s : State) : NextKeepsTable (execPairWaitDue i s) s :=
  next_keepsTable (keepsTable_of_slots rfl (map_slots_eq (fun e => by split <;> rfl) _) rfl rfl rfl)

theorem settleDue_table (i : SlotNo) (s : State) : NextKeepsTable (execSettleDue i s) s :=
  next_keepsTable (keepsTable_of_slots rfl rfl (map_slots_eq (fun e => by split <;> rfl) _) rfl rfl)

theorem watchDue_table (i : SlotNo) (s : State) : NextKeepsTable (execWatchDue i s) s :=
  next_keepsTable (keepsTable_of_slots rfl rfl rfl (map_slots_eq (fun e => by split <;> rfl) _) rfl)

theorem trapWaitDue_table (i : SlotNo) (s : State) : NextKeepsTable (execTrapWaitDue i s) s :=
  next_keepsTable (keepsTable_of_slots rfl rfl rfl rfl (map_slots_eq (fun e => by split <;> rfl) _))

theorem held_table (o : Option Response) (cmd : PortCommand) (s : State) : NextKeepsTable (.next (takeHeld o cmd s)) s :=
  next_same (takeHeld_same o cmd s)

theorem answered_table (r : Response) (s : State) : NextKeepsTable (.next (respond r s)) s := next_same (respond_same r s)

theorem readRecords_same (count : Nat) (s : State) : TableSame s (readRecords count s) := by
  unfold readRecords
  split
  · split <;> exact tableSame_of rfl rfl rfl rfl
  · exact tableSame_of rfl rfl rfl rfl

theorem reportRead_table (count : Nat) (s : State) : NextKeepsTable (execReportRead count s) s := by
  unfold execReportRead
  split
  · split
    · exact next_same (readRecords_same count s)
    · exact answered_table _ s
  · exact answered_table _ s

theorem readTimerExpiry_table (s : State) : NextKeepsTable (execReadTimerExpiry s) s := by
  unfold execReadTimerExpiry
  split
  · exact ite_same (setPort_same _ s)
  · exact stays_keepsTable s

theorem poll_table (s : State) : NextKeepsTable (execPoll s) s := by
  unfold execPoll
  split <;> exact next_same (tableSame_of rfl rfl rfl rfl)

theorem responseDelivered_table (s : State) : NextKeepsTable (execResponseDelivered s) s := by
  unfold execResponseDelivered
  split
  · exact stays_keepsTable s
  · split
    · exact stays_keepsTable s
    · exact next_same (tableSame_of rfl rfl rfl rfl)

theorem unknownCommand_table (code length : Nat) (s : State) : NextKeepsTable (execUnknownCommand code length s) s := by
  unfold execUnknownCommand
  split
  · exact stays_keepsTable s
  · exact answered_table _ s

theorem configure_table (args : ConfigArgs) (levels : PerChannel Nat) (s : State) : NextKeepsTable (execConfigure args levels s) s := by
  unfold execConfigure
  split
  · exact answered_table _ s
  · exact answered_table _ s
  · exact next_same ((configure_same ‹_›).trans (respond_same _ _))

theorem clearingEnd_table (s : State) : NextKeepsTable (execClearingEnd s) s :=
  ite_keepsTable fun h => enterRunning_keepsTable (Bool.and_eq_true_iff.mp h).1

theorem stationHalt_table (s : State) : NextKeepsTable (execStationHalt s) s := by
  unfold execStationHalt
  split
  · exact stays_keepsTable s
  · exact ite_keepsTable fun _ => haltSession_keepsTable _ s

theorem Initial.nextKeepsTable {s t u : State} (h : Initial t) (hu : TableSame t u) : NextKeepsTable (.next u) s :=
  next_keepsTable ⟨fun _ => hu.keepsTable.table h.tableSound, fun _ => hu.keepsTable.timed h.timed⟩

theorem exec_keepsTable (c : Instr) (s : State) : NextKeepsTable (exec c s) s := by
  cases c with
  | powerOnReset => exact (poweredOn_initial s).nextKeepsTable (.refl _)
  | burstEnd ch b => exact burstEnd_table ch b s
  | hitDelivery ch l => exact hitDelivery_table ch l s
  | risingCrossing ch => exact risingCrossing_table ch s
  | fallingCrossing ch => exact fallingCrossing_table ch s
  | filterExpiry ch => exact filterExpiry_table ch s
  | quietExpiry ch => exact quietExpiry_table ch s
  | guardRearm code => exact guardRearm_table code s
  | silenceExpiry k => exact silenceExpiry_table k s
  | dwellExpiry k => exact dwellExpiry_table k s
  | staleExpiry n => exact staleExpiry_table n s
  | clockWrap => exact ite_same (wrapClock_same s)
  | timeIntervalExpiry => exact timeIntervalExpiry_table s
  | statusIntervalExpiry => exact statusIntervalExpiry_table s
  | statusPromotion => exact statusPromotion_table s
  | carrierRise => exact carrierRise_table s
  | carrierDrop => exact ite_same (dropCarrier_unit s).tableSame
  | attemptStart => exact attemptStart_table s
  | attemptComplete => exact attemptComplete_table s
  | collision draw => exact collision_table draw s
  | backoffEnd => exact ite_same (resumeLine_unit s).tableSame
  | congestionEnd => exact ite_same (resumeLine_unit s).tableSame
  | lineJammed => exact ite_same (jamLine_same s)
  | frameReceived signal t => exact frameReceived_table signal t s
  | pairWaitDue i => exact pairWaitDue_table i s
  | settleDue i => exact settleDue_table i s
  | watchDue i => exact watchDue_table i s
  | trapWaitDue i => exact trapWaitDue_table i s
  | localGrant => exact next_keepsTable (grantTo_keepsTable .loc localWork_keepsTable s)
  | lineGrant => exact next_keepsTable (grantTo_keepsTable .line lineWork_keepsTable s)
  | timerGrant => exact next_keepsTable (grantTo_keepsTable .timer timerWork_keepsTable s)
  | portGrant => exact next_keepsTable (grantTo_keepsTable .port portWork_keepsTable s)
  | configure args levels => exact configure_table args levels s
  | configRead => exact answered_table _ s
  | restart => exact (restarted_initial s).nextKeepsTable (respond_same _ _)
  | startSession => exact held_table _ _ s
  | clearingEnd => exact clearingEnd_table s
  | halt => exact held_table _ _ s
  | stationHalt => exact stationHalt_table s
  | rosterPut t c => exact held_table _ _ s
  | rosterClear => exact held_table _ _ s
  | slotRead i => exact held_table _ _ s
  | snapshot first count => exact held_table _ _ s
  | withdraw n => exact held_table _ _ s
  | retime n t => exact held_table _ _ s
  | mark t u => exact held_table _ _ s
  | reportRead count => exact reportRead_table count s
  | readTimerExpiry => exact readTimerExpiry_table s
  | attentionAgeExpiry => exact next_same (tableSame_of rfl rfl rfl rfl)
  | poll => exact poll_table s
  | unknownCommand code length => exact unknownCommand_table code length s
  | deselect => exact next_same (tableSame_of rfl rfl rfl rfl)
  | logRead first count => exact answered_table _ s
  | peerRead n => exact answered_table _ s
  | statusRead => exact next_same ⟨rfl, rfl, rfl, rfl, rfl, rfl, rfl⟩
  | faultRead => exact answered_table _ s
  | faultClear => exact next_same (tableSame_of rfl rfl rfl rfl)
  | overrunClear => exact next_same (tableSame_of rfl rfl rfl rfl)
  | responseDelivered => exact responseDelivered_table s

theorem step_keepsTable {s t : State} (h : step s = .next t) : KeepsTable s t := by
  cases hp : s.pending with
  | nil =>
    rw [step_of_nil hp] at h
    cases h
    exact (tick_same s).keepsTable
  | cons c cs =>
    rw [step_of_pending hp] at h
    have hd : TableSame s { s with pending := cs } := tableSame_of rfl rfl rfl rfl
    exact hd.keepsTable.trans (exec_keepsTable c _ t h)

/-- Settles O41. -/
theorem everyStepKeepsTheTableSound : Obligations.EveryStepKeepsTheTableSound := fun _ _ hs ht => (step_keepsTable ht).table hs

/-- Settles O48. -/
theorem everyStepKeepsTimedListsToRunning : Obligations.EveryStepKeepsTimedListsToRunning := fun _ _ hs ht =>
  (step_keepsTable ht).timed hs

theorem reset_lineSound : LineSound State.reset where
  ordered := .nil
  listening _ := rfl
  deferring h := nomatch h
  sending := rfl

theorem reset_within : WithinCapacities State.reset :=
  (withinCapacities_iff _).mpr ⟨reset_initial.gatherWithin, ⟨Nat.zero_le _, Nat.zero_le _, nofun, Nat.zero_le _⟩,
    reset_initial.tableWithin, Nat.zero_le _⟩

/-- Settles O4: every block of the reset state has its initial values. -/
theorem resetMeetsEveryInvariant : Obligations.ResetMeetsEveryInvariant :=
  ⟨reset_within, reset_initial.guardsSound, reset_initial.peersSound, initialLog_sound rfl, reset_initial.tableSound,
    reset_lineSound, reset_initial.timed, reset_initial.attnSound⟩

end Sys2Proof.Machine
end

section
/-! PROOFS. Resets and station time, and the channels and their guards (chapters 10, 4 and 1). -/

namespace Sys2Proof.Machine

/-! ## Resets and the wrap -/

/-- Settles O5: both resets give every block its initial values, and the carrier and the attempts that the line keeps follow. -/
theorem resetCommandsClearEveryBlock : Obligations.ResetCommandsClearEveryBlock := by
  intro s
  have hmap : ∀ t : Time, s.line.carrierSince.map (fun _ => t) = if s.line.carrierSince.isSome then some t else none := fun t => by
    cases s.line.carrierSince <;> rfl
  refine ⟨⟨poweredOn s, rfl, rfl, ?_⟩, respond (bare .ok) (restarted s), rfl, rfl, ?_, rfl⟩
  · exact congrArg (fun c => { LineBlock.initial with carrierSince := c }) (hmap 0)
  · exact congrArg (fun c => { LineBlock.initial with
      carrierSince := c, attemptFrom := s.line.attemptFrom, attemptEnd := cutOffAt s }) (hmap s.now)

/-- Settles O6. -/
theorem clockWrapOffersTheFault : Obligations.ClockWrapOffersTheFault := by
  intro s h
  refine ⟨wrapClock s, ?_, ?_⟩
  · exact if_pos ((now_eq_lastTime_iff s).mpr h)
  · show offerFault .clockWrap none (restartCount s) = _
    rw [offerFault_eq]
    rfl

/-! ## Bursts -/

theorem formsHit_iff (threshold : Nat) (b : Burst) : formsHit threshold b = true ↔
    (∀ x ∈ b.overlaps, x + 6 ≤ b.strength) ∧ b.checkMatches = true ∧ 1 ≤ b.id ∧ b.id ≤ 16777214 ∧ threshold ≤ b.strength := by
  simp only [formsHit, decodes, Bool.and_eq_true, transponderValid_iff, decide_eq_true_eq, List.all_eq_true, Config.captureMargin]
  tauto

theorem beganBeforeReset_eq_false_iff (start : Time) (s : State) :
    beganBeforeReset start s = false ↔ ((s.now - start).toNat : Int) ≤ s.now.toNat - s.channels.resetAt :=
  decide_eq_false_iff_not.trans Int.not_lt

/-- Settles O7: the tests of the detection rules, one by one. -/
theorem burstEndCompletesOneHit : Obligations.BurstEndCompletesOneHit := by
  intro p ch b s hc
  have htest : (channelOn s ch && !beganBeforeReset b.start s && formsHit (ofChannel p.channels ch).threshold b) = true ↔
      channelOn s ch = true ∧ ((s.now - b.start).toNat : Int) ≤ s.now.toNat - s.channels.resetAt ∧
        (∀ x ∈ b.overlaps, x + 6 ≤ b.strength) ∧ b.checkMatches = true ∧ 1 ≤ b.id ∧ b.id ≤ 16777214 ∧
          (ofChannel p.channels ch).threshold ≤ b.strength := by
    rw [Bool.and_eq_true, Bool.and_eq_true, Bool.not_eq_true', beganBeforeReset_eq_false_iff, formsHit_iff, and_assoc]
  show execBurstEnd ch b s = _
  unfold execBurstEnd
  rw [hc]
  by_cases h : (channelOn s ch && !beganBeforeReset b.start s && formsHit (ofChannel p.channels ch).threshold b) = true
  · exact (if_pos h).trans (by rw [if_pos (htest.mp h)]; rfl)
  · exact (if_neg h).trans (by rw [if_neg fun k => h (htest.mpr k)])

/-! ## Crossings -/

theorem setGuard_frame (ch : Channel) (g : Guard) (s : State) :
    setGuard ch g s = { s with channels := (setGuard ch g s).channels } ∧ (setGuard ch g s).channels.held = s.channels.held ∧
      ∀ x, x ≠ ch → guardOf (setGuard ch g s) x = guardOf s x :=
  ⟨rfl, rfl, fun x hx => guardOf_setGuard_other s ch x g hx⟩

theorem exec_risingCrossing {p : Params} {ch : Channel} {s : State} (hc : s.station.conf = some p) (hon : channelOn s ch = true) :
    exec (.risingCrossing ch) s = .next (setGuard ch (risenGuard (ofChannel p.channels ch) s.now (guardOf s ch)) s) := by
  show execRisingCrossing ch s = _
  unfold execRisingCrossing
  rw [hc]
  exact if_pos hon

theorem exec_fallingCrossing {p : Params} {ch : Channel} {s : State} (hc : s.station.conf = some p) (hon : channelOn s ch = true) :
    exec (.fallingCrossing ch) s = .next (setGuard ch (fallenGuard (ofChannel p.channels ch) s.now (guardOf s ch)) s) := by
  show execFallingCrossing ch s = _
  unfold execFallingCrossing
  rw [hc]
  exact if_pos hon

/-- Settles O8: a crossing sets one guard, to the risen or the fallen one. -/
theorem crossingsMoveTheGuard : Obligations.CrossingsMoveTheGuard := by
  intro p ch s hc hon
  refine ⟨⟨_, exec_risingCrossing hc hon, ?_⟩, ⟨_, exec_fallingCrossing hc hon, ?_⟩⟩
  · obtain ⟨hf, hh, ho⟩ := setGuard_frame ch (risenGuard (ofChannel p.channels ch) s.now (guardOf s ch)) s
    refine ⟨hf, hh, ho, ?_⟩
    rw [guardOf_setGuard_same]
    obtain ⟨state, high, filterDue, quietDue, tripTime⟩ := guardOf s ch
    cases state <;> rfl
  · obtain ⟨hf, hh, ho⟩ := setGuard_frame ch (fallenGuard (ofChannel p.channels ch) s.now (guardOf s ch)) s
    refine ⟨hf, hh, ho, ?_⟩
    rw [guardOf_setGuard_same]
    obtain ⟨state, high, filterDue, quietDue, tripTime⟩ := guardOf s ch
    unfold fallenGuard
    cases state <;> cases (ofChannel p.channels ch).guardMode <;> rfl

/-! ## Trips and re-openings -/

/-- A record offered about a guard that has moved, with room in the FIFO. -/
theorem guardMove_offered {ch : Channel} {g : Guard} {b : RecordBody} {s : State} (hr : s.report.fifo.length < 128) :
    let t := offerRecord b (setGuard ch g s)
    (t = { s with channels := t.channels, report := t.report } ∧ t.channels.held = s.channels.held ∧
      (∀ x, x ≠ ch → guardOf t x = guardOf s x) ∧ t.report.overrun = s.report.overrun) ∧
    t.report.fifo = s.report.fifo ++ [{ issued := s.now, body := b }] ∧ t.report.transaction = s.report.transaction ∧
    guardOf t ch = g := by
  have hroom := offerRecord_room b (setGuard ch g s) hr
  dsimp only
  rw [hroom]
  exact ⟨⟨rfl, rfl, fun x hx => guardOf_setGuard_other s ch x g hx, rfl⟩, rfl, rfl, guardOf_setGuard_same s ch g⟩

theorem tripGuard_stopped {p : Params} {ch : Channel} {s : State} (h : isRunning s = false) :
    tripGuard p ch s = offerRecord (guardRecord p ch .trip s) (setGuard ch (trippedGuard s.now (guardOf s ch)) s) := by
  have hr : isRunning (offerRecord (guardRecord p ch .trip s) (setGuard ch (trippedGuard s.now (guardOf s ch)) s)) = false := h
  unfold tripGuard
  dsimp only
  rw [hr]
  rfl

theorem isRunning_eq_false {s : State} (h : s.station.mode ≠ .running) : isRunning s = false := by
  unfold isRunning stationState
  cases s.station.conf with
  | none => rfl
  | some p =>
    cases hm : s.station.mode with
    | running => exact absurd hm h
    | idle => rfl
    | clearing => rfl
    | halting => rfl

theorem isRunning_of_mode {p : Params} {s : State} (hc : s.station.conf = some p) (hm : s.station.mode = .running) :
    isRunning s = true := by
  unfold isRunning stationState
  rw [hc, hm]
  rfl

theorem exec_filterExpiry {p : Params} {ch : Channel} {d : Time} {s : State} (hc : s.station.conf = some p)
    (hon : channelOn s ch = true) (hw : (guardOf s ch).state = .watching) (hd : (guardOf s ch).filterDue = some d)
    (hr : reached d s.now = true) : exec (.filterExpiry ch) s = .next (tripGuard p ch s) := by
  show execFilterExpiry ch s = _
  unfold execFilterExpiry
  rw [hc]
  refine if_pos ⟨hon, hw, ?_⟩
  rw [hd]
  exact hr

theorem exec_quietExpiry {p : Params} {ch : Channel} {d : Time} {s : State} (hc : s.station.conf = some p)
    (hon : channelOn s ch = true) (hw : (guardOf s ch).state = .quieting) (hd : (guardOf s ch).quietDue = some d)
    (hr : reached d s.now = true) : exec (.quietExpiry ch) s = .next
      (offerRecord (guardRecord p ch (.reopenQuiet (guardOf s ch).tripTime) s) (setGuard ch (reopenedGuard (guardOf s ch)) s)) := by
  show execQuietExpiry ch s = _
  unfold execQuietExpiry
  rw [hc]
  refine if_pos ⟨hon, hw, ?_⟩
  rw [hd]
  exact hr

theorem channelOfCode_channelCode (ch : Channel) : channelOfCode (channelCode ch) = some ch := by cases ch <;> rfl

theorem exec_guardRearm {p : Params} {ch : Channel} {s : State} (hc : s.station.conf = some p) (hon : channelOn s ch = true)
    (ht : (guardOf s ch).state = .tripped) (hl : (guardOf s ch).high = false) : exec (.guardRearm (channelCode ch)) s = .next
      (respond (bare .ok)
        (offerRecord (guardRecord p ch (.reopenRearm (guardOf s ch).tripTime) s) (setGuard ch (reopenedGuard (guardOf s ch)) s))) := by
  show execGuardRearm (channelCode ch) s = _
  unfold execGuardRearm
  rw [hc, channelOfCode_channelCode]
  refine (if_pos hon).trans (congrArg _ ?_)
  unfold rearmChannel
  rw [ht]
  exact if_neg (by rw [hl]; nofun)

/-- Settles O9: each of the three sets one guard and offers its record. -/
theorem tripsAndReopeningsIssueGuardRecords : Obligations.TripsAndReopeningsIssueGuardRecords := by
  intro p ch d s hc hon hroom keepsOthers issues reopened
  refine ⟨fun hw hd hr hm => ?trip, fun hq hd hr => ?quiet, fun ht hl => ?rearm⟩
  case trip =>
    obtain ⟨hk, hi, htr, hg⟩ := guardMove_offered (ch := ch) (g := trippedGuard s.now (guardOf s ch))
      (b := guardRecord p ch .trip s) hroom
    refine ⟨_, exec_filterExpiry hc hon hw hd hr, ?_⟩
    rw [tripGuard_stopped (isRunning_eq_false hm)]
    exact ⟨hk, hi, htr, hg⟩
  case quiet =>
    obtain ⟨hk, hi, htr, hg⟩ := guardMove_offered (ch := ch) (g := reopenedGuard (guardOf s ch))
      (b := guardRecord p ch (.reopenQuiet (guardOf s ch).tripTime) s) hroom
    exact ⟨_, exec_quietExpiry hc hon hq hd hr, hk, hi, htr, hg⟩
  case rearm =>
    obtain ⟨⟨hf, hh, ho, hov⟩, hi, -, hg⟩ := guardMove_offered (ch := ch) (g := reopenedGuard (guardOf s ch))
      (b := guardRecord p ch (.reopenRearm (guardOf s ch).tripTime) s) hroom
    refine ⟨_, exec_guardRearm hc hon ht hl, ⟨?_, hh, ho, hov⟩, hi, hg, rfl⟩
    rw [hf]
    rfl

/-! ## Passes closed by their keys -/

/-- Of the passes live in `s`, those of the keys `ks` are OPEN no more in `t`, and the others stand; no pass becomes OPEN. -/
structure Closes (ks : List PassKey) (s t : State) : Prop where
  opened : ∀ e ∈ t.gather.entries, e.state = .opened → e ∈ s.gather.entries ∧ e.key ∉ ks
  others : ∀ e ∈ s.gather.entries, e.state ≠ .closing → e.key ∉ ks → e ∈ t.gather.entries

theorem Closes.refl (s : State) : Closes [] s s := ⟨fun _ he _ => ⟨he, List.not_mem_nil⟩, fun _ he _ _ => he⟩

theorem Closes.trans {ks ls : List PassKey} {s t u : State} (h : Closes ks s t) (k : Closes ls t u) : Closes (ks ++ ls) s u where
  opened e he ho := by
    obtain ⟨ht, hl⟩ := k.opened e he ho
    obtain ⟨hs, hk⟩ := h.opened e ht ho
    exact ⟨hs, fun hm => (List.mem_append.mp hm).elim hk hl⟩
  others e he hc hm :=
    k.others e (h.others e he hc fun hk => hm (List.mem_append_left _ hk)) hc fun hl => hm (List.mem_append_right _ hl)

theorem closes_of_gather {ks : List PassKey} {s t u : State} (h : Closes ks s t) (hg : u.gather = t.gather) : Closes ks s u :=
  ⟨hg ▸ h.opened, hg ▸ h.others⟩

theorem drawNumber_gather (s : State) : (drawNumber s).2.gather = s.gather := by
  obtain ⟨-, h⟩ | ⟨n, -, -, h⟩ | ⟨n, -, -, h⟩ := drawNumber_cases s <;> rw [h]
  dsimp only
  rw [exhaust_eq]

/-- Acceptance reaches a CLOSING entry alone, which leaves or becomes PARKED. -/
theorem acceptClosing_closes (p : Params) (s : State) : Closes [] s (acceptClosing p s) := by
  obtain ⟨e, -, he, h⟩ | ⟨-, h⟩ := acceptClosing_cases p s <;> rw [h]
  · have hc := (oldestClosing_mem _ e he).2
    have hne : ∀ x, x.state ≠ .closing → x ≠ e := fun x hx hxe => hx (hxe ▸ hc)
    unfold afterAcceptance
    split
    · refine ⟨fun x hx ho => ?_, fun x hx hs _ => ?_⟩
      · obtain ⟨y, hy, hxy⟩ := List.mem_map.mp hx
        split at hxy
        · rw [← hxy] at ho
          cases ho
        · exact ⟨hxy ▸ hy, List.not_mem_nil⟩
      · exact List.mem_map.mpr ⟨x, hx, if_neg (hne x hs)⟩
    · exact ⟨fun x hx _ => ⟨List.mem_of_mem_erase hx, List.not_mem_nil⟩,
        fun x hx hs _ => (List.mem_erase_of_ne (hne x hs)).mpr hx⟩
  · exact .refl s

theorem dropLive_closes (k : PassKey) (s : State) : Closes [k] s (dropLive k s) := by
  refine ⟨fun e he ho => ?_, fun e he _ hk => ?_⟩
  · obtain ⟨he, hh⟩ := List.mem_filter.mp he
    refine ⟨he, fun hm => ?_⟩
    simp [holdsKey, isLive, ho, List.mem_singleton.mp hm] at hh
  · refine List.mem_filter.mpr ⟨he, ?_⟩
    have : (e.key == k) = false := beq_eq_false_iff_ne.mpr fun h => hk (h ▸ List.mem_singleton_self _)
    simp [holdsKey, this]

theorem becomeClosing_closes (p : Params) (c : CloseCause) (k : PassKey) (n : Option Nat) (s : State) :
    Closes [k] s (becomeClosing p c k n s) := by
  refine Closes.trans (ks := [k]) (ls := []) ⟨fun e he ho => ?_, fun e he _ hk => ?_⟩ (acceptClosing_closes p _)
  · obtain ⟨d, hd, hde⟩ := List.mem_map.mp he
    split at hde
    · rw [← hde] at ho
      cases ho
    · rename_i hh
      subst hde
      refine ⟨hd, fun hm => hh ?_⟩
      simp [holdsKey, isLive, ho, List.mem_singleton.mp hm]
  · refine List.mem_map.mpr ⟨e, he, if_neg fun hh => hk ?_⟩
    exact List.mem_singleton.mpr (beq_iff_eq.mp (Bool.and_eq_true_iff.mp hh).2)

theorem closePass_closes (p : Params) (c : CloseCause) (k : PassKey) (s : State) : Closes [k] s (closePass p c k s) := by
  unfold closePass
  split
  · split
    · exact dropLive_closes k s
    · exact becomeClosing_closes p c k none s
  · have hd := drawNumber_gather s
    split
    · rename_i t ht
      rw [ht] at hd
      exact Closes.trans (ks := []) (closes_of_gather (.refl s) hd) (dropLive_closes k t)
    · rename_i n t ht
      rw [ht] at hd
      exact Closes.trans (ks := []) (closes_of_gather (.refl s) hd) (becomeClosing_closes p c k (some n) t)

theorem closePasses_closes (p : Params) (c : CloseCause) (ks : List PassKey) (s : State) : Closes ks s (closePasses p c ks s) := by
  induction ks generalizing s with
  | nil => exact .refl s
  | cons k ks ih => exact (closePass_closes p c k s).trans (ih _)

theorem insertByFirstHit_perm (e : Entry) (l : List Entry) : (insertByFirstHit e l).Perm (e :: l) := by
  induction l with
  | nil => exact .refl _
  | cons f l ih =>
    unfold insertByFirstHit
    split
    · exact .refl _
    · exact (ih.cons f).trans (.swap e f l)

theorem byFirstHit_perm (l : List Entry) : (byFirstHit l).Perm l := by
  induction l with
  | nil => exact .refl _
  | cons e l ih => exact (insertByFirstHit_perm e _).trans (ih.cons e)

/-- The keys of the OPEN entries that the selection names. -/
theorem mem_openKeys (sel : PassKey → Bool) (s : State) (k : PassKey) :
    k ∈ openKeys sel s ↔ sel k = true ∧ ∃ e ∈ s.gather.entries, e.state = .opened ∧ e.key = k := by
  unfold openKeys
  rw [List.mem_map]
  constructor
  · rintro ⟨e, he, rfl⟩
    obtain ⟨hm, ht⟩ := List.mem_filter.mp ((byFirstHit_perm _).mem_iff.mp he)
    obtain ⟨ho, hs⟩ := Bool.and_eq_true_iff.mp ht
    exact ⟨hs, e, hm, beq_iff_eq.mp ho, rfl⟩
  · rintro ⟨hs, e, hm, ho, rfl⟩
    exact ⟨e, (byFirstHit_perm _).mem_iff.mpr
      (List.mem_filter.mpr ⟨hm, Bool.and_eq_true_iff.mpr ⟨beq_iff_eq.mpr ho, hs⟩⟩), rfl⟩

/-! ## Blanking -/

/-- A blanked group is left with closings alone, and the live passes of the other groups stand. -/
theorem blankGroup_passes (p : Params) (g : LineGroup) (s : State) :
    (∀ e ∈ (blankGroup p g s).gather.entries, e.key.group = g → e.state = .closing) ∧
    (∀ e ∈ s.gather.entries, e.key.group ≠ g → e.state ≠ .closing → e ∈ (blankGroup p g s).gather.entries) := by
  have hc := closePasses_closes p .interrupted (openKeys (fun k => k.group == g) s) s
  constructor
  · intro e he hg
    obtain ⟨hm, hp⟩ := List.mem_filter.mp he
    cases hs : e.state with
    | closing => rfl
    | parked => simp [hs, hg] at hp
    | opened =>
      obtain ⟨hes, hk⟩ := hc.opened e hm hs
      exact absurd ((mem_openKeys (fun k => k.group == g) s _).mpr ⟨beq_iff_eq.mpr hg, e, hes, hs, rfl⟩) hk
  · intro e he hg hs
    have hk : e.key ∉ openKeys (fun k => k.group == g) s := fun hm =>
      hg (beq_iff_eq.mp ((mem_openKeys _ s _).mp hm).1)
    refine List.mem_filter.mpr ⟨hc.others e he hs hk, ?_⟩
    simp [hg]

theorem blanked_iff (x : GuardState) : blanked x = true ↔ x = .tripped ∨ x = .quieting := by cases x <;> simp [blanked]

/-- Settles O10: the trip blanks the group, since every other channel of it is blanked. -/
theorem blankingTripEndsTheGroupsPasses : Obligations.BlankingTripEndsTheGroupsPasses := by
  intro p ch d s t hc hm hon hw hd hr hothers ht
  rw [exec_filterExpiry hc hon hw hd hr] at ht
  cases ht
  let u := offerRecord (guardRecord p ch .trip s) (setGuard ch (trippedGuard s.now (guardOf s ch)) s)
  have hrun : isRunning u = true := isRunning_of_mode hc hm
  have hbl : groupBlanked p (groupOf p.arrangement ch) u = true := by
    refine List.all_eq_true.mpr fun x hx => (blanked_iff _).mpr ?_
    by_cases hxc : x = ch
    · left
      show (guardOf (setGuard ch (trippedGuard s.now (guardOf s ch)) s) x).state = .tripped
      rw [hxc, guardOf_setGuard_same]
      rfl
    · show (guardOf (setGuard ch (trippedGuard s.now (guardOf s ch)) s) x).state = _ ∨
        (guardOf (setGuard ch (trippedGuard s.now (guardOf s ch)) s) x).state = _
      rw [guardOf_setGuard_other _ _ _ _ hxc]
      exact hothers x hx hxc
  have htrip : tripGuard p ch s = blankGroup p (groupOf p.arrangement ch) u :=
    if_pos (Bool.and_eq_true_iff.mpr ⟨hrun, hbl⟩)
  rw [htrip]
  exact blankGroup_passes p (groupOf p.arrangement ch) u

end Sys2Proof.Machine
end

section
/-! PROOFS. The stored hits of a pass, its instant, and the trap speed (chapters 2 and 3). -/

namespace Sys2Proof.Machine

/-! ## Stored hits -/

/-- The stored hits of a pass whose first hit is stored as `x`. -/
structure StoreSound (x : StoredHit) (e : Entry) : Prop where
  length : e.stored.length ≤ 32
  head : e.stored.head? = some x
  skip : e.skip < e.stride
  stride : ∃ j ≤ 6, e.stride = 2 ^ j

theorem newEntry_storeSound (p : Params) (k : PassKey) (h : Hit) :
    StoreSound ⟨0, h.strength, h.channel⟩ (newEntry p k h) :=
  ⟨Nat.succ_le_succ (Nat.zero_le 31), rfl, Nat.zero_lt_one, 0, Nat.zero_le 6, rfl⟩

/-- The head of a list with a head is the head of the list with more behind it. -/
theorem head?_append_of_some {α : Type} {l m : List α} {x : α} (h : l.head? = some x) : (l ++ m).head? = some x := by
  cases l with
  | nil => cases h
  | cons y l => exact h

theorem pow_succ_le_six {j : Nat} (h : 2 ^ j < Config.maxStride) : j + 1 ≤ 6 :=
  (Nat.pow_lt_pow_iff_right (a := 2) (by omega)).mp (show 2 ^ j < 2 ^ 6 from h)

theorem storeHit_storeSound {x y : StoredHit} {e : Entry} (h : StoreSound x e) :
    (storeHit y e).stored.length ≤ 32 ∧ (storeHit y e).stored.head? = some x ∧ ∃ j ≤ 6, (storeHit y e).stride = 2 ^ j := by
  refine ⟨storeHit_stored h.length, ?_⟩
  obtain ⟨j, hj, hs⟩ := h.stride
  unfold storeHit
  split
  · exact ⟨head?_append_of_some h.head, j, hj, hs⟩
  · split
    · rename_i hlt
      exact ⟨head?_append_of_some ((evenPlaces_head _).trans h.head), j + 1, pow_succ_le_six (hs ▸ hlt), by
        show e.stride * 2 = _
        rw [hs, Nat.pow_succ]⟩
    · exact ⟨h.head, j, hj, hs⟩

theorem offerStore_storeSound {x : StoredHit} {h : Hit} {e : Entry} (he : StoreSound x e) : StoreSound x (offerStore h e) := by
  unfold offerStore
  split
  · obtain ⟨hl, hh, j, hj, hp⟩ := storeHit_storeSound (y := storedOf e h) he
    exact ⟨hl, hh, Nat.lt_of_lt_of_eq (Nat.two_pow_pos j) hp.symm, j, hj, hp⟩
  · rename_i hs
    exact ⟨he.length, he.head, Nat.lt_of_le_of_ne he.skip hs, he.stride⟩

theorem joinHit_storeSound (p : Params) {x : StoredHit} {h : Hit} {e : Entry} (he : StoreSound x e) :
    StoreSound x (joinHit p h e) := offerStore_storeSound ⟨he.length, he.head, he.skip, he.stride⟩

theorem storeHit_peak (x : StoredHit) (e : Entry) : (storeHit x e).peak = e.peak := by
  unfold storeHit
  split
  · rfl
  · split <;> rfl

theorem offerStore_counts (h : Hit) (e : Entry) :
    (offerStore h e).hitCount = e.hitCount ∧ (offerStore h e).peak = e.peak := by
  unfold offerStore
  split
  · exact ⟨storeHit_hitCount _ _, storeHit_peak _ _⟩
  · exact ⟨rfl, rfl⟩

theorem joinHit_hitCount (p : Params) (h : Hit) (e : Entry) : (joinHit p h e).hitCount = countUp e.hitCount :=
  (offerStore_counts h _).1

theorem joinHit_peak (p : Params) (h : Hit) (e : Entry) : (joinHit p h e).peak = max e.peak h.strength :=
  (offerStore_counts h _).2

theorem foldl_join_storeSound (p : Params) (x : StoredHit) (hs : List Hit) (e : Entry) (h : StoreSound x e) :
    StoreSound x (hs.foldl (fun e x => joinHit p x e) e) := by
  induction hs generalizing e with
  | nil => exact h
  | cons y hs ih => exact ih _ (joinHit_storeSound p h)

theorem foldl_join_hitCount (p : Params) (hs : List Hit) (e : Entry) (h : e.hitCount ≤ 65535) :
    (hs.foldl (fun e x => joinHit p x e) e).hitCount = min 65535 (e.hitCount + hs.length) := by
  induction hs generalizing e with
  | nil => exact (Nat.min_eq_right h).symm
  | cons y hs ih =>
    have hc : (joinHit p y e).hitCount = min 65535 (e.hitCount + 1) := (joinHit_hitCount p y e).trans (countUp_eq _ h)
    rw [List.foldl_cons, ih _ (hc ▸ Nat.min_le_left _ _), hc, List.length_cons]
    omega

theorem foldl_join_peak (p : Params) (hs : List Hit) (e : Entry) :
    (hs.foldl (fun e x => joinHit p x e) e).peak = hs.foldl (fun m x => max m x.strength) e.peak := by
  induction hs generalizing e with
  | nil => rfl
  | cons y hs ih => rw [List.foldl_cons, List.foldl_cons, ih, joinHit_peak]

/-- Settles O13: what a new entry has, each joining hit keeps. -/
theorem storedHitsStayBounded : Obligations.StoredHitsStayBounded := by
  intro p k h hs
  have hsound := foldl_join_storeSound p _ hs _ (newEntry_storeSound p k h)
  exact ⟨hsound.length, hsound.head, hsound.skip, hsound.stride,
    foldl_join_hitCount p hs _ (Nat.succ_le_succ (Nat.zero_le 65534)), foldl_join_peak p hs _⟩

/-! ## The passing instant -/

/-- The weighted mean of what the hits carry lies where the weighted hits lie. -/
theorem moment_between (floor lo hi : Nat) (hits : List StoredHit)
    (h : ∀ k ∈ hits, 0 < weight floor k → lo ≤ k.dt ∧ k.dt ≤ hi) :
    lo * weightSum floor hits ≤ momentSum floor hits ∧ momentSum floor hits ≤ hi * weightSum floor hits := by
  induction hits with
  | nil => exact ⟨Nat.le_refl _, Nat.le_refl _⟩
  | cons k ks ih =>
    obtain ⟨h1, h2⟩ := ih fun x hx => h x (List.mem_cons_of_mem k hx)
    have hk : lo * weight floor k ≤ weight floor k * k.dt ∧ weight floor k * k.dt ≤ hi * weight floor k := by
      rcases Nat.eq_zero_or_pos (weight floor k) with hz | hp
      · rw [hz]
        simp
      · obtain ⟨hl, hh⟩ := h k List.mem_cons_self hp
        exact ⟨Nat.mul_comm lo _ ▸ Nat.mul_le_mul_left _ hl, Nat.mul_comm hi _ ▸ Nat.mul_le_mul_left _ hh⟩
    simp only [weightSum, momentSum, List.map_cons, List.sum_cons, Nat.mul_add] at *
    omega

theorem weightSum_pos (floor : Nat) (hits : List StoredHit) (h : 0 < weightedCount floor hits) : 0 < weightSum floor hits := by
  obtain ⟨k, hk, hw⟩ := List.countP_pos_iff.mp h
  have hle : weight floor k ≤ weightSum floor hits := List.le_sum_of_mem (List.mem_map_of_mem hk)
  exact (of_decide_eq_true hw).trans_le hle

/-- A mean rounded to nearest lies between whole bounds of the mean. -/
theorem roundHalfUp_between {n d lo hi : Nat} (hd : 0 < d) (hl : lo * d ≤ n) (hh : n ≤ hi * d) :
    lo ≤ roundHalfUp n d ∧ roundHalfUp n d ≤ hi := by
  unfold roundHalfUp
  constructor
  · rw [Nat.le_div_iff_mul_le (by omega)]
    calc lo * (2 * d) = 2 * (lo * d) := by rw [Nat.mul_left_comm]
      _ ≤ 2 * n + d := by omega
  · have : 2 * n + d < (hi + 1) * (2 * d) := by
      have : hi * (2 * d) = 2 * (hi * d) := Nat.mul_left_comm _ _ _
      rw [Nat.add_mul, this]
      omega
    exact Nat.lt_succ_iff.mp ((Nat.div_lt_iff_lt_mul (by omega)).mpr this)

theorem strongerHit_iff (h k : StoredHit) :
    strongerHit h k = true ↔ k.strength < h.strength ∨ (h.strength = k.strength ∧ h.dt < k.dt) := by
  simp [strongerHit]

theorem strongestHit_spec (l : List StoredHit) (hl : l ≠ []) :
    ∃ h ∈ l, strongestHit l = some h ∧ ∀ k ∈ l, k.strength < h.strength ∨ (k.strength = h.strength ∧ h.dt ≤ k.dt) := by
  induction l with
  | nil => exact absurd rfl hl
  | cons x xs ih =>
    unfold strongestHit
    by_cases hx : xs = []
    · subst hx
      exact ⟨x, List.mem_cons_self, rfl, fun k hk => .inr ⟨congrArg _ (List.mem_singleton.mp hk),
        (congrArg _ (List.mem_singleton.mp hk)).ge⟩⟩
    · obtain ⟨h, hm, hs, hall⟩ := ih hx
      rw [hs]
      dsimp only
      have hcmp := strongerHit_iff h x
      by_cases hst : strongerHit h x = true
      · rw [if_pos hst]
        refine ⟨h, List.mem_cons_of_mem x hm, rfl, fun k hk => ?_⟩
        rcases List.mem_cons.mp hk with rfl | hk
        · have := hcmp.mp hst
          omega
        · exact hall k hk
      · rw [if_neg hst]
        refine ⟨x, List.mem_cons_self, rfl, fun k hk => ?_⟩
        rw [hcmp] at hst
        rcases List.mem_cons.mp hk with rfl | hk
        · exact .inr ⟨rfl, Nat.le_refl _⟩
        · have := hall k hk
          omega

theorem weightedCount_eq (p : Params) (peak : Nat) (hits : List StoredHit) :
    weightedCount (weightFloor peak p.floorFraction) hits =
      hits.countP (fun h => decide (peak * p.floorFraction / 16 < h.strength)) := by
  unfold weightedCount weight weightFloor
  exact congrArg (hits.countP ·) (funext fun h => decide_eq_decide.mpr Nat.sub_pos_iff_lt)

/-- Settles O15: with enough weighted hits the offset is a rounded weighted mean of them; without, it is the strongest hit's. -/
theorem instantComesFromTheConsideredHits : Obligations.InstantComesFromTheConsideredHits := by
  intro p peak ch hits lo hi hmin hne considered choices weighted
  have hcount : weightedCount (weightFloor peak p.floorFraction) considered = considered.countP weighted :=
    weightedCount_eq p peak considered
  refine ⟨fun hc hb => ?mean, fun hc => ?strongest⟩
  case mean =>
    have hi' : instantOffset p peak ch hits = (roundHalfUp (momentSum (weightFloor peak p.floorFraction) considered)
        (weightSum (weightFloor peak p.floorFraction) considered), false) := if_pos (hcount ▸ hc)
    have hpos := weightSum_pos (weightFloor peak p.floorFraction) considered (hcount ▸ (Nat.lt_of_lt_of_le hmin hc))
    obtain ⟨hl, hh⟩ := moment_between (weightFloor peak p.floorFraction) lo hi considered fun k hk hw =>
      hb k hk (decide_eq_true (Nat.sub_pos_iff_lt.mp hw))
    rw [hi']
    exact ⟨rfl, roundHalfUp_between hpos hl hh⟩
  case strongest =>
    have hi' : instantOffset p peak ch hits = (weakOffset considered hits, true) := if_neg (hcount ▸ Nat.not_le.mpr hc)
    have hch : (if considered.isEmpty then hits else considered) = choices := by
      show _ = if considered = [] then hits else considered
      simp [List.isEmpty_iff]
    have hchne : choices ≠ [] := by
      show (if considered = [] then hits else considered) ≠ []
      split <;> assumption
    obtain ⟨h, hm, hs, hall⟩ := strongestHit_spec choices hchne
    rw [hi']
    refine ⟨rfl, h, hm, ?_, hall⟩
    unfold weakOffset
    rw [hch, hs]
    rfl

/-! ## The trap speed -/

theorem trapOf_singleton {s : State} {w : TrapWait} (h : s.table.trap = [w]) : trapOf s w.slot = some w := by
  unfold trapOf
  rw [h]
  exact List.find?_cons_of_pos (beq_self_eq_true _)

theorem removeTrap_singleton {s : State} {w : TrapWait} (h : s.table.trap = [w]) :
    removeTrap w.slot s = { s with table := { s.table with trap := [] } } := by
  unfold removeTrap
  rw [h]
  simp

theorem holdItem_of_none {p : Params} {i : SlotNo} {x : TrapItem} {s : State} (h : s.table.trap = []) :
    holdItem p i x s = { s with table := { s.table with trap :=
      [{ slot := i, side := x.side, instant := x.instant, number := x.number, flags := x.flags,
         expiry := later s.now (p.trapWindow * 1000), due := false }] } } := by
  unfold holdItem addTrap insertByTime
  rw [h]
  rfl

/-- A record offered with room changes the report port alone, and its FIFO by the record. -/
theorem offerRecord_into {b : RecordBody} {s : State} (h : s.report.fifo.length < 128) :
    (offerRecord b s).report.fifo = s.report.fifo ++ [{ issued := s.now, body := b }] := by
  rw [offerRecord_room b s h]
  rfl

theorem takeTrapItem_sameSide {p : Params} {i : SlotNo} {x : TrapItem} {w : TrapWait} {s : State} (h : trapOf s i = some w)
    (hs : w.side = x.side) : takeTrapItem p i x s = holdItem p i x (endWait i (heldItem w) s) := by
  unfold takeTrapItem
  rw [h]
  dsimp only
  rw [← hs]
  cases w.side <;> rfl

theorem takeTrapItem_pair {p : Params} {i : SlotNo} {x : TrapItem} {w : TrapWait} {s : State} (h : trapOf s i = some w)
    (hs : w.side ≠ x.side) : takeTrapItem p i x s =
      judgePair p i (if x.side = .entry then x else heldItem w) (if x.side = .entry then heldItem w else x) s := by
  unfold takeTrapItem
  rw [h]
  dsimp only
  cases hw : w.side <;> cases hx : x.side
  · exact absurd (hw.trans hx.symm) hs
  · rfl
  · rfl
  · exact absurd (hw.trans hx.symm) hs

/-- The speed before saturation is the nearest, halves up. -/
theorem rawSpeed_bounds (distance : Nat) {delta : Int} (h : 0 < delta) :
    2 * (distance : Int) * 360000 < (2 * (rawSpeed distance delta.toNat : Int) + 1) * delta ∧
      (2 * (rawSpeed distance delta.toNat : Int) - 1) * delta ≤ 2 * (distance : Int) * 360000 := by
  obtain ⟨d, rfl⟩ := Int.eq_ofNat_of_zero_le h.le
  obtain ⟨hl, hh⟩ := roundHalfUp_bounds (distance * 360000) d (by omega)
  show 2 * (distance : Int) * 360000 < (2 * (roundHalfUp (distance * 360000) d : Int) + 1) * d ∧
    (2 * (roundHalfUp (distance * 360000) d : Int) - 1) * d ≤ 2 * (distance : Int) * 360000
  generalize roundHalfUp (distance * 360000) d = r at hl hh
  zify at hl hh
  constructor <;> nlinarith

theorem judgeSpeed_cases (p : Params) (delta : Int) :
    (delta ≤ 0 ∧ judgeSpeed p delta = .reversed) ∨
    (0 < delta ∧ ((p.trapWindow * 1000 : Nat) : Int) < delta ∧ judgeSpeed p delta = .outOfWindow) ∨
    (0 < delta ∧ delta ≤ ((p.trapWindow * 1000 : Nat) : Int) ∧ judgeSpeed p delta =
      .speed (min 9999 (rawSpeed p.trapDistance delta.toNat)) (decide (9999 < rawSpeed p.trapDistance delta.toNat))) := by
  unfold judgeSpeed
  split
  · exact .inl ⟨‹_›, rfl⟩
  · split
    · exact .inr (.inl ⟨by omega, ‹_›, rfl⟩)
    · exact .inr (.inr ⟨by omega, by omega, rfl⟩)

/-- The value of a judged speed: nearest, or saturated. -/
theorem judged_speed (distance : Nat) {delta : Int} (h : 0 < delta) {v : Nat} {sat : Bool}
    (hv : v = min 9999 (rawSpeed distance delta.toNat)) (hs : sat = decide (9999 < rawSpeed distance delta.toNat)) :
    v ≤ 9999 ∧
    (sat = false → 2 * (distance : Int) * 360000 < (2 * (v : Int) + 1) * delta ∧
      (2 * (v : Int) - 1) * delta ≤ 2 * (distance : Int) * 360000) ∧
    (sat = true → v = 9999 ∧ (2 * 9999 + 1) * delta ≤ 2 * (distance : Int) * 360000) := by
  obtain ⟨hl, hh⟩ := rawSpeed_bounds distance h
  refine ⟨hv ▸ Nat.min_le_left _ _, fun hf => ?_, fun ht => ?_⟩
  · have hr : ¬ 9999 < rawSpeed distance delta.toNat := of_decide_eq_false (hs ▸ hf)
    have hvr : v = rawSpeed distance delta.toNat := by omega
    exact hvr ▸ ⟨hl, hh⟩
  · have hr : 9999 < rawSpeed distance delta.toNat := of_decide_eq_true (hs ▸ ht)
    refine ⟨by omega, ?_⟩
    have h1 : (9999 : Int) + 1 ≤ (rawSpeed distance delta.toNat : Int) := by omega
    nlinarith

theorem logEntry_congr {s t : State} (h : t.log = s.log) (n : Nat) : logEntry t n = logEntry s n := by
  unfold logEntry
  rw [h]

theorem writeSpeed_frame (p : Params) (a b : TrapItem) (s : State) :
    writeSpeed p a b s = { s with log := (writeSpeed p a b s).log } := by
  unfold writeSpeed
  split <;> rfl

theorem writeSpeed_log_offerRecord (p : Params) (a b : TrapItem) (r : RecordBody) (s : State) :
    (writeSpeed p a b (offerRecord r s)).log = (writeSpeed p a b s).log := by
  unfold writeSpeed
  split <;> rfl

/-- A pair takes its wait away, and its record is offered; the log alone takes a computed speed. -/
theorem judgePair_eq {p : Params} {w : TrapWait} {a b : TrapItem} {s : State} (h : s.table.trap = [w]) :
    judgePair p w.slot a b s = { s with
      table := { s.table with trap := [] }
      log := (writeSpeed p a b s).log
      report := (offerRecord (.speed (pairRecord p s w.slot a b)) s).report } := by
  have hw : (writeSpeed p a b (offerRecord (.speed (pairRecord p s w.slot a b)) s)).table.trap = [w] := by
    rw [writeSpeed_frame]
    exact h
  unfold judgePair
  rw [removeTrap_singleton hw, writeSpeed_frame, writeSpeed_log_offerRecord]
  rfl

/-- A pair without a speed writes nothing into the log. -/
theorem writeSpeed_log_of_not_speed {p : Params} {a b : TrapItem} {s : State}
    (h : ∀ v sat, judgeSpeed p (timeDiff b.instant a.instant) ≠ .speed v sat) : (writeSpeed p a b s).log = s.log := by
  unfold writeSpeed
  split
  · rename_i v sat n hj _
    exact absurd hj (h v sat)
  · rfl

/-- A speed is written into the log entry of the passing on A. -/
theorem writeSpeed_entry {p : Params} {a b : TrapItem} {v n : Nat} {sat : Bool} {e : LogEntry} {s t : State}
    (h : judgeSpeed p (timeDiff b.instant a.instant) = .speed v sat) (hn : a.number = some n) (he : logEntry s n = some e)
    (ht : t.log = (writeSpeed p a b s).log) :
    logEntry t n = some { e with speed := some { speed := v, saturated := sat, exitFlags := b.flags } } := by
  rw [logEntry_congr ht]
  unfold writeSpeed
  rw [h, hn]
  dsimp only
  rw [logEntry_updateLog_same, he]
  rfl

/-- The reason, the speed and the flags that a judgement gives the record of its pair (see `pairRecord_judged`). -/
def judgedReason : Judgement → Option Reason
  | .reversed => some .reversed
  | .outOfWindow => some .outOfWindow
  | .speed .. => none

def judgedSpeed : Judgement → Option Nat
  | .speed v _ => some v
  | _ => none

def judgedFlags : Judgement → Flags
  | .speed _ sat => addFlagIf sat 0 .saturated
  | _ => 0

theorem pairRecord_judged {p : Params} {i : SlotNo} {a b : TrapItem} {s : State} {j : Judgement}
    (h : judgeSpeed p (timeDiff b.instant a.instant) = j) :
    (pairRecord p s i a b).reason = judgedReason j ∧ (pairRecord p s i a b).speed = judgedSpeed j ∧
      (pairRecord p s i a b).flags = judgedFlags j := by
  subst h
  unfold pairRecord
  dsimp only
  cases judgeSpeed p (timeDiff b.instant a.instant) <;> exact ⟨rfl, rfl, rfl⟩

/-- Settles O16: by the trap wait that stands, and for a pair by the judgement of its two instants. -/
theorem trapSpeedIsJudged : Obligations.TrapSpeedIsJudged := by
  intro p i x s hroom t held window
  refine ⟨fun hn => ?none, fun w hw hi hs => ?same, fun w hw hi hs => ?pair⟩
  case none =>
    have : trapOf s i = none := by unfold trapOf; rw [hn]; rfl
    show takeTrapItem p i x s = _
    unfold takeTrapItem
    rw [this]
    exact holdItem_of_none hn
  case same =>
    subst hi
    have he : endWait w.slot (heldItem w) s = { s with
        table := { s.table with trap := [] }
        report := (offerRecord (.speed (loneRecord s w.slot (heldItem w))) s).report } :=
      removeTrap_singleton (s := offerRecord (.speed (loneRecord s w.slot (heldItem w))) s) hw
    have ht : t = { s with
        table := { s.table with trap := [held] }
        report := (offerRecord (.speed (loneRecord s w.slot (heldItem w))) s).report } := by
      show takeTrapItem p w.slot x s = _
      rw [takeTrapItem_sameSide (trapOf_singleton hw) hs, he]
      exact holdItem_of_none rfl
    rw [ht]
    exact ⟨rfl, offerRecord_into hroom⟩
  case pair =>
    subst hi
    intro a b delta
    have ht : t = _ := (takeTrapItem_pair (trapOf_singleton hw) hs).trans (judgePair_eq hw)
    rw [ht]
    refine ⟨rfl, pairRecord p s w.slot a b, offerRecord_into hroom, rfl, ?_⟩
    obtain ⟨hd, hj⟩ | ⟨hp, hd, hj⟩ | ⟨hp, hd, hj⟩ := judgeSpeed_cases p delta <;>
      obtain ⟨hreason, hspeed, hflags⟩ := pairRecord_judged (s := s) (i := w.slot) hj
    · exact ⟨fun _ => ⟨hreason, hspeed, hflags, writeSpeed_log_of_not_speed fun v sat he => nomatch hj.symm.trans he⟩,
        fun h => absurd h (not_lt.mpr hd), fun h => absurd h (not_lt.mpr hd)⟩
    · exact ⟨fun h => absurd hp (not_lt.mpr h),
        fun _ _ => ⟨hreason, hspeed, hflags, writeSpeed_log_of_not_speed fun v sat he => nomatch hj.symm.trans he⟩,
        fun _ h => absurd hd (not_lt.mpr h)⟩
    · obtain ⟨hv, hunsat, hsaturated⟩ := judged_speed p.trapDistance hp rfl rfl
      have hbit : ∀ sat : Bool, addFlagIf sat 0 .saturated = if sat then 32768 else 0 := by decide
      exact ⟨fun h => absurd hp (not_lt.mpr h), fun _ h => absurd h (not_lt.mpr hd), fun _ _ =>
        ⟨_, _, hreason, hspeed, hflags.trans (hbit _), hv, hunsat, hsaturated, fun n e hn he => writeSpeed_entry hj hn he rfl⟩⟩

end Sys2Proof.Machine
end

section
/-! PROOFS. A delivered hit, and the expiries of a pass (chapter 2). -/

namespace Sys2Proof.Machine

/-! ## The entry of a key among entries that do not hold it -/

variable {before after : List Entry} {e : Entry} {k : PassKey} {s : State} (p : Params)

theorem holdsKey_iff (k : PassKey) (e : Entry) : holdsKey k e = true ↔ e.state ≠ .closing ∧ e.key = k := by
  simp [holdsKey, isLive]

/-- The entries `l` do not hold the key: those with it are closings. -/
def Misses (k : PassKey) (l : List Entry) : Prop := ∀ x ∈ l, holdsKey k x = false

theorem misses_of_closing {l : List Entry} (h : ∀ x ∈ l, x.key = k → x.state = .closing) : Misses k l := fun x hx =>
  Bool.eq_false_iff.mpr fun hh => ((holdsKey_iff k x).mp hh).1 (h x hx ((holdsKey_iff k x).mp hh).2)

theorem misses_of_key {l : List Entry} (h : ∀ x ∈ l, x.key ≠ k) : Misses k l := misses_of_closing fun x hx hk => absurd hk (h x hx)

theorem findLive_of_misses (h : Misses k s.gather.entries) : findLive k s = none :=
  List.find?_eq_none.mpr fun x hx => by rw [h x hx]; nofun

theorem updateLive_of_misses {f : Entry → Entry} {l : List Entry} (h : Misses k l) : updateLive k f l = l :=
  (List.map_congr_left fun x hx => by rw [h x hx]; rfl).trans (List.map_id l)

theorem removeLive_of_misses {l : List Entry} (h : Misses k l) : removeLive k l = l :=
  List.filter_eq_self.mpr fun x hx => by rw [h x hx]; rfl

theorem misses_split (h : Misses k (before ++ after)) : Misses k before ∧ Misses k after :=
  ⟨fun x hx => h x (List.mem_append_left _ hx), fun x hx => h x (List.mem_append_right _ hx)⟩

theorem updateLive_split {f : Entry → Entry} (he : holdsKey k e = true) (h : Misses k (before ++ after)) :
    updateLive k f (before ++ e :: after) = before ++ f e :: after := by
  obtain ⟨hb, ha⟩ := misses_split h
  have hm := updateLive_of_misses (f := f) hb
  have hn := updateLive_of_misses (f := f) ha
  unfold updateLive at hm hn ⊢
  rw [List.map_append, List.map_cons, hm, hn, if_pos he]

theorem removeLive_split (he : holdsKey k e = true) (h : Misses k (before ++ after)) :
    removeLive k (before ++ e :: after) = before ++ after := by
  obtain ⟨hb, ha⟩ := misses_split h
  have hm := removeLive_of_misses hb
  have hn := removeLive_of_misses ha
  unfold removeLive at hm hn ⊢
  rw [List.filter_append, List.filter_cons_of_neg (by rw [he]; nofun), hm, hn]

theorem findLive_split (hes : s.gather.entries = before ++ e :: after) (he : holdsKey k e = true) (h : Misses k (before ++ after)) :
    findLive k s = some e := by
  obtain ⟨hb, -⟩ := misses_split h
  unfold findLive
  rw [hes, List.find?_append, List.find?_eq_none.mpr fun x hx => by rw [hb x hx]; nofun, List.find?_cons_of_pos he]
  rfl

/-! ## The acceptance of the only closing -/

theorem oldestClosing_of_live {l : List Entry} (h : ∀ x ∈ l, x.state ≠ .closing) : oldestClosing l = none := by
  cases ho : oldestClosing l with
  | none => rfl
  | some x => exact absurd (oldestClosing_mem l x ho).2 (h x (oldestClosing_mem l x ho).1)

theorem oldestClosing_split (he : e.state = .closing) (h : ∀ x ∈ before ++ after, x.state ≠ .closing) :
    oldestClosing (before ++ e :: after) = some e := by
  induction before with
  | nil =>
    have hn := oldestClosing_of_live h
    rw [List.nil_append] at hn ⊢
    unfold oldestClosing
    rw [if_pos he, hn]
  | cons x xs ih =>
    rw [List.cons_append]
    unfold oldestClosing
    rw [if_neg (h x (List.mem_append_left _ List.mem_cons_self))]
    exact ih fun y hy => h y (List.mem_cons_of_mem x hy)

theorem erase_split (he : e ∉ before) : (before ++ e :: after).erase e = before ++ after := by
  rw [List.erase_append_right _ he, List.erase_cons_head]

/-- The only OPEN pass of its key becomes CLOSING where no other closing waits, and a queue with room takes it. -/
theorem becomeClosing_alone {c : CloseCause} {n : Option Nat} (hes : s.gather.entries = before ++ e :: after)
    (he : holdsKey k e = true) (h : Misses k (before ++ after)) (hl : ∀ x ∈ before ++ after, x.state ≠ .closing)
    (hq : s.gather.queue.length < 16) :
    let d := closedEntry p c n s.gather.closeCount e
    let u : State := { s with gather := { s.gather with
      entries := before ++ d :: after, closeCount := s.gather.closeCount + 1 } }
    becomeClosing p c k n s = { s with gather := { s.gather with
      entries := afterAcceptance p d u, closeCount := s.gather.closeCount + 1, queue := s.gather.queue ++ [itemOf d] } } := by
  intro d u
  have hu : becomeClosing p c k n s = acceptClosing p u := by
    unfold becomeClosing
    rw [hes, updateLive_split he h]
  rw [hu]
  unfold acceptClosing
  rw [if_pos hq, show oldestClosing u.gather.entries = some d from oldestClosing_split rfl hl]

/-- Without a parking mark the closing leaves. -/
theorem afterAcceptance_unmarked {d : Entry} {u : State} (hd : d.parkMark = false) : afterAcceptance p d u = u.gather.entries.erase d := by
  unfold afterAcceptance becomesMarker
  rw [hd]
  rfl

/-- A marked closing that stands alone, and whose silence expiry is still to come, leaves its marker. -/
theorem afterAcceptance_alone {d : Entry} {u : State} (hu : u.gather.entries = [d]) (hd : d.state = .closing)
    (hp : d.parkMark = true) (hr : reached (silenceAt p d.lastHit) u.now = false) : afterAcceptance p d u = [markerOf p d] := by
  have hf : findLive d.key u = none := findLive_of_misses <| misses_of_closing fun x hx _ => by
    rw [hu] at hx
    rw [List.mem_singleton.mp hx, hd]
  have hb : becomesMarker p d u = true := by
    unfold becomesMarker
    rw [hf, hp, hr]
    rfl
  unfold afterAcceptance
  rw [if_pos hb, hu]
  simp

theorem not_mem_of_live {l : List Entry} {d : Entry} (hd : d.state = .closing) (h : ∀ x ∈ l, x.state ≠ .closing) : d ∉ l :=
  fun hm => h d hm hd

/-- A close of the timing group with a number to draw. -/
theorem closePass_timing {c : CloseCause} {n : Nat} (hk : k.group = .timing) (hn : s.log.counter = some n) (hlt : n < 4294967295) :
    closePass p c k s = becomeClosing p c k (some n) { s with log := drawBlock n s.log } := by
  have hd : drawNumber s = (some n, { s with log := drawBlock n s.log }) := by
    obtain ⟨h, -⟩ | ⟨m, h, -, hd⟩ | ⟨m, h, hm, -⟩ := drawNumber_cases s <;> rw [hn] at h <;> cases h
    · exact hd
    · omega
  unfold closePass
  rw [hk, hd]

theorem closePass_exitLoop {c : CloseCause} (hk : k.group = .exitLoop) (hc : c ≠ .interrupted) :
    closePass p c k s = becomeClosing p c k none s := by
  unfold closePass
  rw [hk]
  exact if_neg hc

/-- A close that leaves no parking mark, of the only OPEN pass of its key with no closing waiting. -/
theorem becomeClosing_leaves {c : CloseCause} {n : Option Nat} (hes : s.gather.entries = before ++ e :: after)
    (he : holdsKey k e = true) (h : Misses k (before ++ after)) (hl : ∀ x ∈ before ++ after, x.state ≠ .closing)
    (hq : s.gather.queue.length < 16) (hc : c ≠ .dwell) :
    becomeClosing p c k n s = { s with gather := { s.gather with
      entries := before ++ after, closeCount := s.gather.closeCount + 1
      queue := s.gather.queue ++ [itemOf (closedEntry p c n s.gather.closeCount e)] } } := by
  have hb : (c == CloseCause.dwell) = false := beq_eq_false_iff_ne.mpr hc
  rw [becomeClosing_alone p hes he h hl hq, afterAcceptance_unmarked p hb]
  dsimp only
  rw [erase_split (not_mem_of_live rfl fun x hx => hl x (List.mem_append_left _ hx))]

/-- A dwell close of an entry that stands alone, whose silence expiry is still to come, leaves its marker. -/
theorem becomeClosing_marks {n : Option Nat} (hes : s.gather.entries = [e]) (he : holdsKey k e = true)
    (hq : s.gather.queue.length < 16) (hr : reached (silenceAt p e.lastHit) s.now = false) :
    becomeClosing p .dwell k n s = { s with gather := { s.gather with
      entries := [markerOf p (closedEntry p .dwell n s.gather.closeCount e)], closeCount := s.gather.closeCount + 1
      queue := s.gather.queue ++ [itemOf (closedEntry p .dwell n s.gather.closeCount e)] } } := by
  have hn : ∀ x ∈ ([] ++ [] : List Entry), False := fun x hx => List.not_mem_nil hx
  rw [becomeClosing_alone p (before := []) (after := []) hes he (fun x hx => (hn x hx).elim) (fun x hx => (hn x hx).elim) hq]
  dsimp only
  rw [afterAcceptance_alone p ?entries ?state ?mark ?due]
  case entries => rfl
  case state => rfl
  case mark => rfl
  case due => exact hr

theorem drawBlock_counter {n : Nat} {b : LogBlock} (h : n < 4294967295) : (drawBlock n b).counter = some (n + 1) := if_pos h

theorem mem_drawBlock {n : Nat} {b : LogBlock} (q : LogPlace) :
    q ∈ (drawBlock n b).places ↔ (q ∈ b.places ∧ q.number % 2048 ≠ n % 2048) ∨ q = { number := n, entry := none } :=
  mem_reservePlace n b.places q

/-! ## Expiries -/

theorem exec_silenceExpiry {d : Time} (hc : s.station.conf = some p) (hf : findLive k s = some e) (hd : e.silenceDue = some d)
    (hr : reached d s.now = true) : exec (.silenceExpiry k) s = .next (takeSilence p k s) := by
  show execSilenceExpiry k s = _
  unfold execSilenceExpiry
  rw [hc, hf]
  refine if_pos ?_
  rw [hd]
  exact hr

theorem exec_dwellExpiry {d : Time} (hc : s.station.conf = some p) (hf : findLive k s = some e) (ho : e.state = .opened)
    (hd : e.dwellDue = some d) (hr : reached d s.now = true) : exec (.dwellExpiry k) s = .next (closePass p .dwell k s) := by
  show execDwellExpiry k s = _
  unfold execDwellExpiry
  rw [hc, hf]
  refine if_pos ⟨ho, ?_⟩
  rw [hd]
  exact hr

/-- Settles O14: the entry stands alone, so its closing is the one that the queue takes. -/
theorem expiriesClosePasses : Obligations.ExpiriesClosePasses := by
  intro p e d n s hc hes hq hn hlt
  have hnone : Misses e.key ([] ++ []) := fun x hx => absurd hx List.not_mem_nil
  have hlive : ∀ x ∈ ([] ++ [] : List Entry), x.state ≠ .closing := fun x hx => absurd hx List.not_mem_nil
  have holds : e.state ≠ .closing → holdsKey e.key e = true := fun h => (holdsKey_iff _ _).mpr ⟨h, rfl⟩
  have found : e.state ≠ .closing → findLive e.key s = some e := fun h => findLive_split (before := []) (after := []) hes (holds h) hnone
  refine ⟨fun ho hg hd hr => ?silence, fun ho hg hd hr hlast => ?dwell, fun hp hd hr => ?parked⟩
  case silence =>
    have hl : e.state ≠ .closing := ho ▸ nofun
    have ht : takeSilence p e.key s = closePass p .silence e.key s := by
      unfold takeSilence
      rw [found hl]
      exact if_pos ho
    refine ⟨_, (exec_silenceExpiry p hc (found hl) hd hr).trans (congrArg _ (ht.trans ((closePass_timing p hg hn hlt).trans
      (becomeClosing_leaves p (before := []) (after := []) hes (holds hl) hnone hlive hq nofun)))), rfl, rfl, drawBlock_counter hlt,
      (mem_drawBlock _).mpr (.inr rfl), fun q hq hm => (mem_drawBlock q).mpr (.inl ⟨hq, hm⟩)⟩
  case dwell =>
    have hl : e.state ≠ .closing := ho ▸ nofun
    have hr' : reached (silenceAt p e.lastHit) s.now = false := by
      unfold reached silenceAt
      rw [hlast]
      rfl
    exact ⟨_, _, (exec_dwellExpiry p hc (found hl) ho hd hr).trans (congrArg _ ((closePass_timing p hg hn hlt).trans
      (becomeClosing_marks p hes (holds hl) hq hr'))), rfl, rfl, rfl, rfl, rfl, rfl, rfl, rfl, rfl, rfl, drawBlock_counter hlt⟩
  case parked =>
    have hl : e.state ≠ .closing := hp ▸ nofun
    refine (exec_silenceExpiry p hc (found hl) hd hr).trans (congrArg _ ?_)
    unfold takeSilence
    rw [found hl]
    refine (if_neg (hp ▸ nofun)).trans ?_
    unfold dropLive setEntries
    rw [hes, show removeLive e.key [e] = [] from removeLive_split (before := []) (after := []) (holds hl) hnone]

/-! ## A delivered hit -/

theorem evenPlaces_eq_from (l : List StoredHit) (m : Nat) (hm : m % 2 = 0) :
    evenPlaces l = ((l.zipIdx m).filter (fun y => decide (y.2 % 2 = 0))).map (·.1) := by
  match l with
  | [] => rfl
  | [x] => simp [evenPlaces, hm]
  | x :: y :: l =>
    have hodd : ¬ (m + 1) % 2 = 0 := by omega
    have ih := evenPlaces_eq_from l (m + 1 + 1) (by omega)
    rw [evenPlaces, ih]
    simp [List.zipIdx_cons, hm, hodd]

/-- The hits kept by a decimation, by their positions (R24). -/
theorem evenPlaces_eq (l : List StoredHit) :
    evenPlaces l = (l.zipIdx.filter (fun y => decide (y.2 % 2 = 0))).map (·.1) := evenPlaces_eq_from l 0 rfl

theorem storeHit_cases (x : StoredHit) (e : Entry) :
    storeHit x e = { e with
      stored := if e.stored.length < 32 then e.stored ++ [x]
        else if 32 ≤ e.stored.length ∧ e.stride < 64 then evenPlaces e.stored ++ [x] else e.stored
      stride := if 32 ≤ e.stored.length ∧ e.stride < 64 then e.stride * 2 else e.stride } := by
  unfold storeHit
  by_cases hl : e.stored.length < Config.storedHits
  · rw [if_pos hl, if_pos hl, if_neg fun h => absurd hl (Nat.not_lt.mpr h.1)]
  · rw [if_neg hl, if_neg hl]
    by_cases hs : e.stride < Config.maxStride
    · rw [if_pos hs, if_pos ⟨Nat.not_lt.mp hl, hs⟩, if_pos ⟨Nat.not_lt.mp hl, hs⟩]
    · rw [if_neg hs, if_neg fun h => hs h.2, if_neg fun h => hs h.2]

/-- An entry after a hit has joined it, field by field (R23, R24). -/
theorem joinHit_eq (h : Hit) (e : Entry) :
    joinHit p h e =
      { e with
        lastHit := h.time, silenceDue := some (later h.time (p.closeGap * 1000)),
        hitCount := if e.hitCount < 65535 then e.hitCount + 1 else e.hitCount,
        peak := max e.peak h.strength, peakChannel := if e.peak < h.strength then h.channel else e.peakChannel,
        flags := if h.lowBattery then e.flags ||| 1 else e.flags,
        stored :=
          if decide (e.skip + 1 = e.stride) then
            if e.stored.length < 32 then e.stored ++ [⟨(h.time - e.firstHit).toNat, h.strength, h.channel⟩]
            else if decide (32 ≤ e.stored.length ∧ e.stride < 64) then
              (e.stored.zipIdx.filter (fun y => decide (y.2 % 2 = 0))).map (·.1) ++
                [⟨(h.time - e.firstHit).toNat, h.strength, h.channel⟩]
            else e.stored
          else e.stored
        stride := if decide (e.skip + 1 = e.stride) && decide (32 ≤ e.stored.length ∧ e.stride < 64) then e.stride * 2 else e.stride,
        skip := if decide (e.skip + 1 = e.stride) then 0 else e.skip + 1 } := by
  unfold joinHit offerStore
  by_cases ho : e.skip + 1 = e.stride
  · simp only [ho, if_true, decide_true, Bool.true_and, storeHit_cases, evenPlaces_eq, decide_eq_true_eq]
    rfl
  · simp only [ho, if_false, decide_false, Bool.false_and, Bool.false_eq_true]
    rfl

theorem exec_hitDelivery {h : Hit} (hc : s.station.conf = some p) (hm : s.station.mode = .running) (hh : s.channels.held = [h]) :
    exec (.hitDelivery h.channel []) s = .next
      (if guardPasses (guardOf s h.channel).state then takeHit p h { s with channels := { s.channels with held := [] } }
       else { s with channels := { s.channels with held := [] } }) := by
  have hnext : nextHit h.channel s.channels.held = some h := by
    rw [hh]
    exact if_pos rfl
  have hleave : mayLeave [] h s = true := by
    unfold mayLeave
    rw [hh]
    simp [isBefore_self]
  show execHitDelivery h.channel [] s = _
  unfold execHitDelivery
  rw [hc, hnext]
  refine (if_pos hleave).trans (congrArg _ ?_)
  unfold deliverHit
  rw [hh, isRunning_of_mode hc hm, Bool.and_true, List.erase_cons_head]

theorem guardPasses_iff (g : GuardState) : guardPasses g = true ↔ g = .opened ∨ g = .watching := by cases g <;> simp [guardPasses]

theorem guardPasses_eq_false {g : GuardState} (h : g = .tripped ∨ g = .quieting) : guardPasses g = false := by
  rcases h with rfl | rfl <;> rfl

theorem admitted_iff (h : Hit) (s : State) : admitted p h s = true ↔ p.admission = .anyone ∨ h.transponder ∈ s.gather.filter := by
  unfold admitted
  cases hp : p.admission with
  | anyone => simp
  | rosterOnly => simp

/-- A hit makes its entry where a place is free and its silence expiry is still to come. -/
theorem makeEntry_lasting {h : Hit} (hl : s.gather.entries.length < 48)
    (hr : isBefore s.now (later h.time (p.closeGap * 1000)) = true) :
    makeEntry p k h s = { s with gather := { s.gather with entries := s.gather.entries ++ [newEntry p k h] } } := by
  have hr' : reached (silenceAt p h.time) s.now = false := by
    unfold reached silenceAt
    rw [hr]
    rfl
  unfold makeEntry
  rw [if_pos hl, hr']
  rfl

/-! ### The candidate of a full table -/

theorem isBefore_asymm {a b : Time} (h : isBefore a b = true) : isBefore b a = false := by
  simp only [isBefore, timeDiff, BitVec.toInt_eq_toNat_cond, BitVec.toNat_sub, decide_eq_true_eq, decide_eq_false_iff_not] at h ⊢
  have ha := a.isLt
  have hb := b.isLt
  split at h <;> split <;> omega

theorem heardBefore_iff (e f : Entry) : heardBefore e f = true ↔
    isBefore e.lastHit f.lastHit = true ∨ (e.lastHit = f.lastHit ∧ isBefore e.firstHit f.firstHit = true) := by
  simp [heardBefore]

theorem heardBefore_asymm {e f : Entry} (h : heardBefore e f = true) : heardBefore f e = false := by
  rw [Bool.eq_false_iff]
  intro hf
  rw [heardBefore_iff] at h hf
  rcases h with h | ⟨h, h'⟩ <;> rcases hf with hf | ⟨hf, hf'⟩
  · rw [isBefore_asymm h] at hf; cases hf
  · rw [hf, isBefore_self] at h; cases h
  · rw [h, isBefore_self] at hf; cases hf
  · rw [isBefore_asymm h'] at hf'; cases hf'

theorem candidateOf_mem {l : List Entry} {f : Entry} (h : candidateOf l = some f) : f ∈ l ∧ f.state ≠ .closing := by
  induction l generalizing f with
  | nil => cases h
  | cons x xs ih =>
    unfold candidateOf at h
    split at h
    · rename_i hx
      have hxl : x.state ≠ .closing := by simpa [isLive] using hx
      split at h
      · cases h
        exact ⟨List.mem_cons_self, hxl⟩
      · rename_i g hg
        split at h
        · cases h
          exact ⟨List.mem_cons_of_mem x (ih hg).1, (ih hg).2⟩
        · cases h
          exact ⟨List.mem_cons_self, hxl⟩
    · exact ⟨List.mem_cons_of_mem x (ih h).1, (ih h).2⟩

theorem candidateOf_of_closing {l : List Entry} (h : ∀ x ∈ l, x.state = .closing) : candidateOf l = none := by
  cases hc : candidateOf l with
  | none => rfl
  | some f => exact absurd (h f (candidateOf_mem hc).1) (candidateOf_mem hc).2

/-- The entry heard before every other live one is the candidate, wherever it stands. -/
theorem candidateOf_split (he : e.state ≠ .closing)
    (h : ∀ x ∈ before ++ after, x.state ≠ .closing → heardBefore e x = true) : candidateOf (before ++ e :: after) = some e := by
  induction before with
  | nil =>
    have hl : isLive e = true := by simpa [isLive] using he
    rw [List.nil_append]
    unfold candidateOf
    rw [if_pos hl]
    cases hc : candidateOf after with
    | none => rfl
    | some f => exact if_neg (by rw [heardBefore_asymm (h f (candidateOf_mem hc).1 (candidateOf_mem hc).2)]; nofun)
  | cons x xs ih =>
    rw [List.cons_append]
    unfold candidateOf
    rw [ih fun y hy => h y (List.mem_cons_of_mem x hy)]
    split
    · rename_i hx
      exact if_pos (h x List.mem_cons_self (by simpa [isLive] using hx))
    · rfl

/-! ### What the hit brings -/

theorem takeHit_fresh {h : Hit} (ha : admitted p h s = true)
    (hf : findLive ⟨h.transponder, groupOf p.arrangement h.channel⟩ s = none) :
    takeHit p h s =
      if s.gather.entries.length < 48 then makeEntry p ⟨h.transponder, groupOf p.arrangement h.channel⟩ h s
      else fullTable p ⟨h.transponder, groupOf p.arrangement h.channel⟩ h s := by
  unfold takeHit
  dsimp only
  rw [if_pos ha, hf]

theorem takeHit_joins {h : Hit} (ha : admitted p h s = true)
    (hf : findLive ⟨h.transponder, groupOf p.arrangement h.channel⟩ s = some e) (ho : e.state = .opened) :
    takeHit p h s = setEntries
      (updateLive ⟨h.transponder, groupOf p.arrangement h.channel⟩ (joinHit p h) s.gather.entries) s := by
  unfold takeHit
  dsimp only
  rw [if_pos ha, hf]
  exact if_pos ho

theorem takeHit_refreshes {h : Hit} (ha : admitted p h s = true)
    (hf : findLive ⟨h.transponder, groupOf p.arrangement h.channel⟩ s = some e) (ho : e.state ≠ .opened) :
    takeHit p h s = setEntries
      (updateLive ⟨h.transponder, groupOf p.arrangement h.channel⟩ (refreshMarker p h) s.gather.entries) s := by
  unfold takeHit
  dsimp only
  rw [if_pos ha, hf]
  exact if_neg ho

/-- The candidate has been heard too recently, or its closing finds no room. -/
theorem fullTable_crowded {h : Hit} (hcand : candidateOf s.gather.entries = none ∨
      ∃ e, candidateOf s.gather.entries = some e ∧
        (timeDiff h.time e.lastHit < 2000 ∨ (e.state ≠ .parked ∧ 16 ≤ s.gather.queue.length))) :
    fullTable p k h s = setCrowded s := by
  unfold fullTable
  rcases hcand with hn | ⟨e, he, ht | ⟨hp, hq⟩⟩
  · rw [hn]
  · rw [he]
    exact if_pos ht
  · rw [he]
    by_cases ht : timeDiff h.time e.lastHit < (Config.evictionAge : Int)
    · exact if_pos ht
    · exact (if_neg ht).trans ((if_neg hp).trans (if_neg (Nat.not_lt.mpr hq)))

theorem fullTable_parked {h : Hit} (he : candidateOf s.gather.entries = some e) (ht : 2000 ≤ timeDiff h.time e.lastHit)
    (hp : e.state = .parked) : fullTable p k h s = makeEntry p k h (dropLive e.key s) := by
  unfold fullTable
  rw [he]
  exact (if_neg (not_lt.mpr ht)).trans (if_pos hp)

theorem fullTable_opened {h : Hit} (he : candidateOf s.gather.entries = some e) (ht : 2000 ≤ timeDiff h.time e.lastHit)
    (ho : e.state = .opened) (hq : s.gather.queue.length < 16) :
    fullTable p k h s = makeEntry p k h (closePass p .early e.key s) := by
  unfold fullTable
  rw [he]
  exact (if_neg (not_lt.mpr ht)).trans ((if_neg (ho ▸ nofun)).trans (if_pos hq))

/-- Settles O12: by guard, filter, and the entry that a lookup finds; in a full table by its candidate. -/
theorem deliveredHitMakesOrJoinsAPass : Obligations.DeliveredHitMakesOrJoinsAPass := by
  intro p h s hc hm hh key left crowded fresh lasts
  have hex := exec_hitDelivery p hc hm hh
  have hfresh : newEntry p key h = fresh := by
    have hflag : ∀ b : Bool, addFlagIf b 0 .lowBattery = if b then 1 else 0 := by decide
    show { fresh with flags := addFlagIf h.lowBattery 0 .lowBattery } = fresh
    rw [hflag]
  refine ⟨fun hg => ?blanked, fun ha hf => ?filtered, fun hg ha => ?taken⟩
  case blanked =>
    rw [hex, guardPasses_eq_false hg]
    rfl
  case filtered =>
    have hadm : admitted p h left = false := Bool.eq_false_iff.mpr fun h' => by
      rcases (admitted_iff p h left).mp h' with h' | h'
      · rw [ha] at h'
        cases h'
      · exact hf h'
    have hleft : takeHit p h left = left := if_neg (by rw [hadm]; nofun)
    rw [hex]
    split
    · exact congrArg _ hleft
    · rfl
  case taken =>
    have hadm : admitted p h left = true := (admitted_iff p h left).mpr ha
    rw [hex, if_pos ((guardPasses_iff _).mpr hg)]
    have hnone : (∀ x ∈ s.gather.entries, x.key = key → x.state = .closing) → findLive key left = none := fun hx =>
      findLive_of_misses (misses_of_closing hx)
    refine ⟨fun hl hx hr => ?makes, fun before e after hes ho hk hx => ?joins, fun before e after hes ho hk hx => ?refreshes,
      fun hl hx => ?full⟩
    case makes =>
      refine congrArg _ ((takeHit_fresh p hadm (hnone hx)).trans ((if_pos hl).trans ((makeEntry_lasting p (s := left) hl hr).trans ?_)))
      rw [hfresh]
    case joins =>
      have hh := (holdsKey_iff key e).mpr ⟨ho ▸ nofun, hk⟩
      have hm := misses_of_closing hx
      intro offered place decimates evens
      refine congrArg _ ((takeHit_joins p hadm (findLive_split (s := left) hes hh hm) ho).trans ?_)
      unfold setEntries
      rw [show left.gather.entries = _ from hes, updateLive_split hh hm, joinHit_eq]
    case refreshes =>
      have hh := (holdsKey_iff key e).mpr ⟨ho ▸ nofun, hk⟩
      have hm := misses_of_closing hx
      refine congrArg _ ((takeHit_refreshes p hadm (findLive_split (s := left) hes hh hm) (ho ▸ nofun)).trans ?_)
      unfold setEntries
      rw [show left.gather.entries = _ from hes, updateLive_split hh hm]
      rfl
    case full =>
      have htake : takeHit p h left = fullTable p key h left :=
        (takeHit_fresh p hadm (hnone hx)).trans (if_neg (Nat.not_lt.mpr hl.ge))
      rw [htake]
      refine ⟨fun hcl => congrArg _ (fullTable_crowded p (.inl (candidateOf_of_closing hcl))), fun before e after hes he hfirst => ?_⟩
      have hcand : candidateOf left.gather.entries = some e := by
        show candidateOf s.gather.entries = _
        rw [hes]
        exact candidateOf_split he fun x hx hs => (heardBefore_iff e x).mpr (hfirst x hx hs)
      have hlen : (before ++ after).length < 48 := by
        rw [hes] at hl
        simp only [List.length_append, List.length_cons] at hl ⊢
        omega
      have hh := (holdsKey_iff e.key e).mpr ⟨he, rfl⟩
      refine ⟨fun ht => congrArg _ (fullTable_crowded p (.inr ⟨e, hcand, .inl ht⟩)),
        fun ho hq => congrArg _ (fullTable_crowded p (.inr ⟨e, hcand, .inr ⟨ho ▸ nofun, hq⟩⟩)),
        fun ht hr hp hx' => ?parked, fun ht hr ho hx' hq => ?opened⟩
      case parked =>
        have hd : dropLive e.key left = { left with gather := { s.gather with entries := before ++ after } } := by
          unfold dropLive setEntries
          rw [show left.gather.entries = _ from hes, removeLive_split hh (misses_of_closing hx')]
        refine congrArg _ ((fullTable_parked p hcand ht hp).trans ?_)
        rw [hd]
        refine (makeEntry_lasting p (s := { left with gather := { s.gather with entries := before ++ after } }) hlen hr).trans ?_
        rw [hfresh]
      case opened =>
        have hm := misses_of_key fun x hmem => (hx' x hmem).1
        have hlive : ∀ x ∈ before ++ after, x.state ≠ .closing := fun x hmem => (hx' x hmem).2
        intro closes
        refine ⟨fun n hgr hn hlt => ?_, fun hgr => ?_⟩
        · have hcl := (closePass_timing p (c := .early) (s := left) hgr hn hlt).trans
            (becomeClosing_leaves p (s := { left with log := drawBlock n s.log }) hes hh hm hlive hq nofun)
          refine ⟨_, ⟨congrArg _ ((fullTable_opened p hcand ht ho hq).trans
            ((congrArg _ hcl).trans (makeEntry_lasting p hlen hr))), rfl, ?_, rfl, rfl⟩, drawBlock_counter hlt⟩
          rw [← hfresh]
        · have hcl := (closePass_exitLoop p (c := .early) (s := left) hgr nofun).trans
            (becomeClosing_leaves p (s := left) (n := none) hes hh hm hlive hq nofun)
          refine ⟨_, ⟨congrArg _ ((fullTable_opened p hcand ht ho hq).trans
            ((congrArg _ hcl).trans (makeEntry_lasting p hlen hr))), rfl, ?_, rfl, rfl⟩, rfl⟩
          rw [← hfresh]

end Sys2Proof.Machine
end


section
/-! PROOFS. Chapters 4 and 5: the stale expiry, PEER_READ, the schedules of the TIME and STATUS notices, and the moves of the line
(R58, R64 to R66, R69, R70, R74 to R81). -/

namespace Sys2Proof.Machine

/-! ## The stale expiry (O18) -/

theorem isFeeder_iff (p : Params) (n : Nat) : isFeeder p n = true ↔ n ∈ p.feeders := by simp [isFeeder]

theorem exec_staleExpiry {p : Params} {n : Nat} {k : Fin 31} {d : Time} {s : State} (hc : s.station.conf = some p)
    (hk : peerIndex n = some k) (hs : (peerOf s k).clock = .acquiring ∨ (peerOf s k).clock = .locked)
    (hd : (peerOf s k).staleDue = some d) (hr : reached d s.now = true) :
    exec (.staleExpiry n) s = .next (goStale p n k s) := by
  have hgo : canGoStale (peerOf s k).clock = true := by
    obtain h | h := hs <;> rw [h] <;> rfl
  have hdue : dueBy (peerOf s k).staleDue s.now = true := by
    rw [hd]
    exact hr
  show execStaleExpiry n s = _
  unfold execStaleExpiry
  rw [hc, hk]
  exact if_pos (by rw [hgo, hdue]; rfl)

/-- A record of a peer replaced: the others stand. -/
theorem setPeer_frame (k : Fin 31) (r : PeerRecord) (s : State) :
    setPeer k r s = { s with clock := (setPeer k r s).clock } ∧
      (setPeer k r s).clock = { s.clock with peers := (setPeer k r s).clock.peers } ∧
      (∀ j, j ≠ k → peerOf (setPeer k r s) j = peerOf s j) ∧ peerOf (setPeer k r s) k = r :=
  ⟨rfl, rfl, fun j hj => peerOf_setPeer_other s k j r hj, peerOf_setPeer_same s k r⟩

/-- Settles O18, from the record that goes STALE and the two reports of a feeder. -/
theorem staleExpirySilencesThePeer : Obligations.StaleExpirySilencesThePeer := by
  intro p n k d s hc hk hs hd hr
  have hex := exec_staleExpiry hc hk hs hd hr
  obtain ⟨hframe, hclock, hother, hsame⟩ := setPeer_frame k (stalePeer (peerOf s k)) s
  refine ⟨fun hn => ?other, fun hn hm hroom hf => ?feeder⟩
  case other =>
    have hno : isFeeder p n = false := Bool.eq_false_iff.mpr fun h => hn ((isFeeder_iff p n).mp h)
    have hgo : goStale p n k s = setPeer k (stalePeer (peerOf s k)) s := by
      simp only [goStale, reportPeer, hno, Bool.false_and, Bool.false_eq_true, if_false]
    exact ⟨_, hex, by rw [hgo]; exact ⟨hframe, hclock, hother, hsame⟩⟩
  case feeder =>
    have hyes := (isFeeder_iff p n).mpr hn
    have hrun := isRunning_of_mode hc hm
    have hgo : goStale p n k s = offerFault .feederSilent (some n)
        (offerRecord
          (.peer { station := n, previous := (peerOf s k).clock, new := .stale, cause := .silence, eventTime := s.now,
                   offset := ((peerOf s k).offset).getD 0, count := (peerOf s k).count })
          (setPeer k (stalePeer (peerOf s k)) s)) := by
      simp only [goStale, reportPeer, hyes, hrun, Bool.true_and, if_true]
      rfl
    refine ⟨_, hex, ?_⟩
    rw [hgo, offerFault_eq, offerRecord_room _ _ (show (setPeer k _ s).report.fifo.length < 128 from hroom)]
    refine ⟨rfl, hclock, hother, hsame, ?_, rfl, rfl, rfl⟩
    have hcapture : captureFault .feederSilent (some n) s.now s.station.fault =
        { code := .feederSilent, time := s.now, detail := some n, lost := false } := by
      rw [hf]
      rfl
    exact congrArg (fun f => { s.station with fault := some f }) hcapture

/-! ## PEER_READ (O20) -/

theorem peerIndex_eq_none {n : Nat} (h : n = 0 ∨ 31 < n) : peerIndex n = none := dif_neg (by omega)

theorem peerAnswer_refused {p : Params} {n : Nat} {s : State} (hc : s.station.conf = some p)
    (h : n = 0 ∨ 31 < n ∨ n = p.stationNumber) : peerAnswer s n = ⟨.badArgument, .nothing⟩ := by
  unfold peerAnswer
  cases hk : peerIndex n with
  | none => rfl
  | some k =>
    have hn : n = p.stationNumber := by
      have hi := (peerIndex_eq_some n k).mp hk
      have hlt := k.isLt
      omega
    exact if_pos (by rw [hc, hn]; rfl)

theorem peerAnswer_record {p : Params} {n : Nat} {k : Fin 31} {s : State} (hc : s.station.conf = some p)
    (hk : peerIndex n = some k) (hn : n ≠ p.stationNumber) : peerAnswer s n = okWith (.peer (peerView s n k)) := by
  unfold peerAnswer
  rw [hk]
  refine if_neg fun h => hn ?_
  rw [hc] at h
  exact (Option.some.inj h).symm

/-- Settles O20, by the number that is asked. -/
theorem peerReadAnswersTheRecord : Obligations.PeerReadAnswersTheRecord := by
  intro p n s hc
  refine ⟨respond (peerAnswer s n) s, rfl, fun h => ?_, fun k hk hn => ?_⟩
  · rw [peerAnswer_refused hc h]
    rfl
  · rw [peerAnswer_record hc hk hn]
    have hfeeder : isFeeder p n = decide (n ∈ p.feeders) := by simp [isFeeder]
    unfold peerView
    simp only [hc, Option.map_some, Option.bind_some, Option.getD_some, hfeeder]
    rfl

/-! ## Places in the transmit queue -/

/-- A list split where a test changes from holding to failing. -/
theorem takeWhile_split {α : Type} {f : α → Bool} {before after : List α} (hb : ∀ x ∈ before, f x = true)
    (ha : ∀ x ∈ after, f x = false) :
    (before ++ after).takeWhile f = before ∧ (before ++ after).dropWhile f = after := by
  have hnone : after.takeWhile f = [] ∧ after.dropWhile f = after := by
    cases after with
    | nil => exact ⟨rfl, rfl⟩
    | cons x xs => simp [ha x (.head _)]
  rw [List.takeWhile_append_of_pos hb, List.dropWhile_append_of_pos hb, hnone.1, hnone.2, List.append_nil]
  exact ⟨rfl, rfl⟩

theorem enqueue_split {n : Notice} {before after : List Notice} (hb : ∀ m ∈ before, classRank m.cls ≤ classRank n.cls)
    (ha : ∀ m ∈ after, classRank n.cls < classRank m.cls) : enqueue n (before ++ after) = before ++ n :: after := by
  obtain ⟨ht, hd⟩ := takeWhile_split (f := fun m => decide (classRank m.cls ≤ classRank n.cls))
    (fun m hm => decide_eq_true (hb m hm)) (fun m hm => decide_eq_false (Nat.not_le.mpr (ha m hm)))
  unfold enqueue
  rw [ht, hd]

/-- A Low notice takes the tail of the queue. -/
theorem enqueue_low {n : Notice} (q : List Notice) (hn : n.cls = .low) : enqueue n q = q ++ [n] := by
  have hb : ∀ m ∈ q, classRank m.cls ≤ classRank n.cls := fun m _ => by
    rw [hn]
    cases m.cls <;> decide
  have h := enqueue_split (after := []) hb nofun
  rwa [List.append_nil] at h

/-- A Middle notice takes its place before the Low ones. -/
theorem enqueue_middle {n : Notice} {before after : List Notice} (hn : n.cls = .middle) (hb : ∀ m ∈ before, m.cls ≠ .low)
    (ha : ∀ m ∈ after, m.cls = .low) : enqueue n (before ++ after) = before ++ n :: after := by
  refine enqueue_split (fun m hm => ?_) fun m hm => ?_
  · have h := hb m hm
    rw [hn]
    cases hc : m.cls with
    | low => exact absurd hc h
    | high => decide
    | middle => decide
  · rw [hn, ha m hm]
    decide

/-- A High notice takes its place behind the High ones. -/
theorem enqueue_high {n : Notice} {before after : List Notice} (hn : n.cls = .high) (hb : ∀ m ∈ before, m.cls = .high)
    (ha : ∀ m ∈ after, m.cls ≠ .high) : enqueue n (before ++ after) = before ++ n :: after := by
  refine enqueue_split (fun m hm => ?_) fun m hm => ?_
  · rw [hn, hb m hm]
  · have h := ha m hm
    rw [hn]
    cases hc : m.cls with
    | high => exact absurd hc h
    | middle => decide
    | low => decide

theorem replaceStatus_split {f : StatusFields} {before after : List Notice} {n : Notice} (hn : isWaitingStatus n = true)
    (hb : ∀ m ∈ before, isWaitingStatus m = false) :
    replaceStatus f (before ++ n :: after) = before ++ { n with body := .status f } :: after := by
  induction before with
  | nil => exact if_pos hn
  | cons m before ih =>
    rw [List.cons_append, replaceStatus, if_neg (by rw [hb m (.head _)]; decide), ih fun x hx => hb x (.tail _ hx)]
    rfl

/-! ## The offers of TIME and STATUS notices (O22) -/

theorem exec_timeIntervalExpiry {d : Time} {s : State} (hd : s.clock.timeDue = some d) (hr : reached d s.now = true) :
    exec .timeIntervalExpiry s = .next (offerTime { s with clock := { s.clock with timeDue := none } }) := by
  refine if_pos ?_
  rw [hd]
  exact hr

theorem exec_statusIntervalExpiry {p : Params} {d : Time} {s : State} (hc : s.station.conf = some p)
    (hd : s.clock.statusDue = some d) (hr : reached d s.now = true) :
    exec .statusIntervalExpiry s = .next (offerStatus p (scheduleStatus s)) := by
  show execStatusIntervalExpiry s = _
  unfold execStatusIntervalExpiry
  rw [hc]
  refine if_pos ?_
  rw [hd]
  exact hr

/-- What the settling of a line with a notice in its queue does: LISTENING ends, and no other state moves. -/
theorem settleLine_of_notice {s : State} (hq : s.line.queue ≠ []) :
    (s.line.state = .listening → (settleLine s).line.state = .deferring) ∧
      (s.line.state ≠ .listening → settleLine s = s) := by
  obtain ⟨hs, -, h⟩ | ⟨-, he, -⟩ | ⟨hl, -, h⟩ := settleLine_cases s
  · rw [h]
    exact ⟨fun _ => rfl, fun hn => absurd hs hn⟩
  · exact absurd he hq
  · exact ⟨fun hs => absurd (hl hs) hq, fun _ => h⟩

theorem offerStatus_frame (p : Params) (s : State) : offerStatus p s = { s with line := (offerStatus p s).line } := by
  unfold offerStatus
  split
  · rfl
  · split
    · rw [(settleLine_frame _).1]
      rfl
    · rfl

/-- Settles O22: the TIME offer by the room of the reserve, the STATUS offer by the notice that waits. -/
theorem intervalsOfferTimeAndStatusNotices : Obligations.IntervalsOfferTimeAndStatusNotices := by
  refine ⟨fun d before after s hd hr hq hb ha => ?time, fun p d s hc hd hr => ?status⟩
  case time =>
    have hex := exec_timeIntervalExpiry hd hr
    refine ⟨fun hl hr => ?room, fun hfull => ?full⟩
    case room =>
      let fresh := freshNotice .time .middle s.now
      let t := setQueue (enqueue fresh s.line.queue) { s with clock := { s.clock with timeDue := none } }
      have hoffer : offerTime { s with clock := { s.clock with timeDue := none } } = settleLine t :=
        if_pos ((timedRoom_iff _).mpr ⟨hl, hr⟩)
      have hqueue : enqueue fresh s.line.queue = before ++ fresh :: after := by
        rw [hq]
        exact enqueue_middle rfl hb ha
      obtain ⟨hframe, hkeep⟩ := settleLine_frame t
      have hne : t.line.queue ≠ [] := List.ne_nil_of_length_eq_add_one (length_enqueue fresh s.line.queue)
      obtain ⟨hlisten, hstay⟩ := settleLine_of_notice hne
      refine ⟨_, hex.trans (congrArg _ hoffer), ?_, ?_, hkeep.trans hqueue, hlisten, fun hs => ?_⟩
      · rw [hframe]
        rfl
      · rw [hframe]
        rfl
      · rw [hstay hs]
        rfl
    case full =>
      refine hex.trans (congrArg _ (if_neg fun hroom => ?_))
      obtain ⟨hl, hn⟩ := (timedRoom_iff _).mp hroom
      obtain h | h := hfull
      · exact absurd hl (by rw [show ({ s with clock := _ } : State).line.queue.length = 24 from h]; decide)
      · exact absurd hn (Nat.not_lt.mpr h)
  case status =>
    intro contents
    have hcontents : statusContents p (scheduleStatus s) = contents := by
      have hstate : stationStateCode (noticeStationState (stationState (scheduleStatus s))) = contents.stationState := by
        unfold stationState
        rw [scheduleStatus_station, hc]
        show stationStateCode (noticeStationState (match s.station.mode with
          | .idle => .idle | .clearing => .clearing | .running => .running | .halting => .halting)) =
            match s.station.mode with | .clearing => 3 | .running => 4 | _ => 2
        cases s.station.mode <;> rfl
      have hfault : (s.station.fault.map (fun f => faultCodeNat f.code)).getD 0 = contents.fault := by
        show _ = match s.station.fault with | none => 0 | some f => faultCodeNat f.code
        cases s.station.fault <;> rfl
      unfold statusContents
      rw [hstate, scheduleStatus_station, hfault]
      rfl
    have hframe := offerStatus_frame p (scheduleStatus s)
    refine ⟨_, exec_statusIntervalExpiry hc hd hr, ?_, ?_, fun before n after f hq hb hn hw => ?_, fun hw hl hn => ?_⟩
    · rw [hframe]
      rfl
    · rw [hframe]
      rfl
    · have hwait : isWaitingStatus n = true := by
        unfold isWaitingStatus
        rw [hb]
        show (!n.inTransmission) = true
        rw [hn]
        rfl
      have hoffer : offerStatus p (scheduleStatus s) =
          setQueue (replaceStatus (statusContents p (scheduleStatus s)) s.line.queue) (scheduleStatus s) :=
        if_pos (List.any_eq_true.mpr ⟨n, by rw [scheduleStatus_line, hq]; simp, hwait⟩)
      rw [hoffer, hq, replaceStatus_split hwait hw, hcontents]
      rfl
    · have hno : (scheduleStatus s).line.queue.any isWaitingStatus = false := by
        rw [scheduleStatus_line]
        exact List.any_eq_false.mpr fun m hm => by rw [hw m hm]; decide
      have hoffer : offerStatus p (scheduleStatus s) = settleLine (setQueue
          (enqueue (freshNotice (.status (statusContents p (scheduleStatus s))) .low s.now) s.line.queue) (scheduleStatus s)) := by
        unfold offerStatus
        rw [hno]
        exact if_pos ((timedRoom_iff _).mpr ⟨hl, hn⟩)
      rw [hoffer, (settleLine_frame _).2, hcontents, enqueue_low _ rfl]
      rfl

/-! ## The promotion of a STATUS notice (O23) -/

theorem beforePromoted_high {t : Time} {m : Notice} (h : m.cls = .high) : beforePromoted t m = true := by
  unfold beforePromoted
  rw [h]

theorem beforePromoted_middle {t : Time} {m : Notice} (h : m.cls = .middle) :
    beforePromoted t m = !isBefore t m.entryTime := by
  unfold beforePromoted
  rw [h]

theorem beforePromoted_low {t : Time} {m : Notice} (h : m.cls = .low) : beforePromoted t m = false := by
  unfold beforePromoted
  rw [h]

theorem enqueueByEntry_split {n : Notice} {before after : List Notice} (hb : ∀ m ∈ before, beforePromoted n.entryTime m = true)
    (ha : ∀ m ∈ after, beforePromoted n.entryTime m = false) : enqueueByEntry n (before ++ after) = before ++ n :: after := by
  obtain ⟨ht, hd⟩ := takeWhile_split hb ha
  unfold enqueueByEntry
  rw [ht, hd]

/-- Settles O23: the notices before the Low class are not promotable, so the one named is found first and leaves its own place. -/
theorem statusPromotionMovesToMiddle : Obligations.StatusPromotionMovesToMiddle := by
  intro n f high early late low s hq hbody hcls hr hhigh hearly hlate hlow
  have hupper : ∀ m ∈ high ++ early ++ late, m.cls ≠ .low := by
    intro m hm
    rw [List.append_assoc, List.mem_append, List.mem_append] at hm
    obtain h | h | h := hm
    · rw [hhigh m h]; decide
    · rw [(hearly m h).1]; decide
    · rw [(hlate m h).1]; decide
  have hn : promotable s.now n = true := by
    have ht : isTimed n = true := by unfold isTimed; rw [hbody]
    have hage : reached (later n.entryTime Config.promotionAge) s.now = true := hr
    unfold promotable
    rw [ht, hcls, hage]
    rfl
  have hfind : s.line.queue.find? (promotable s.now) = some n := by
    rw [hq, List.find?_append, List.find?_eq_none.mpr fun m hm => ?_, Option.none_or, List.find?_cons_of_pos hn]
    have hc := hupper m hm
    unfold promotable
    cases hcm : m.cls with
    | low => exact absurd hcm hc
    | high => simp
    | middle => simp
  have herase : s.line.queue.erase n = high ++ early ++ late ++ low := by
    rw [hq, List.erase_append_right _ fun hm => hupper n hm hcls, List.erase_cons_head]
  show execStatusPromotion s = _
  unfold execStatusPromotion
  rw [hfind]
  show Host.Outcome.next (setQueue (enqueueByEntry { n with cls := .middle } (s.line.queue.erase n)) s) = _
  rw [herase, List.append_assoc (high ++ early), enqueueByEntry_split (before := high ++ early)]
  · rw [setQueue]
    simp only [List.append_assoc, List.cons_append]
  · intro m hm
    obtain h | h := List.mem_append.mp hm
    · exact beforePromoted_high (hhigh m h)
    · rw [beforePromoted_middle (hearly m h).1, (hearly m h).2]
      rfl
  · intro m hm
    obtain h | h := List.mem_append.mp hm
    · rw [beforePromoted_middle (hlate m h).1, (hlate m h).2]
      rfl
    · exact beforePromoted_low (hlow m h)

/-! ## Carrier, waits and the jam (O24) -/

theorem resumeLine_listening {s : State} (hq : s.line.queue = []) : resumeLine s = enterListening s := by
  unfold resumeLine
  rw [hq]
  rfl

theorem resumeLine_deferring {s : State} (hq : s.line.queue ≠ []) : resumeLine s = enterDeferring s :=
  if_neg fun h => hq (List.isEmpty_iff.mp h)

theorem enterDeferring_quiet {s : State} (hc : s.line.carrierSince = none) : (enterDeferring s).line.quietFrom = some s.now := by
  show (if s.line.carrierSince.isSome then none else some s.now) = _
  rw [hc]
  rfl

theorem dropCarrier_frame (s : State) : dropCarrier s = { s with line := (dropCarrier s).line } := by
  unfold dropCarrier
  cases s.line.state with
  | jammed => exact (resumeLine_frame _).1.trans rfl
  | deferring | listening | sending | backoff | congested => rfl

theorem dropCarrier_jammed {s : State} (h : s.line.state = .jammed) :
    dropCarrier s = resumeLine { s with line := { s.line with carrierSince := none } } := by
  unfold dropCarrier
  rw [h]

theorem dropCarrier_deferring {s : State} (h : s.line.state = .deferring) :
    dropCarrier s = { s with line := { s.line with carrierSince := none, quietFrom := some s.now } } := by
  unfold dropCarrier
  rw [h]

theorem dropCarrier_else {s : State} (hd : s.line.state ≠ .deferring) (hj : s.line.state ≠ .jammed) :
    dropCarrier s = { s with line := { s.line with carrierSince := none } } := by
  unfold dropCarrier
  cases h : s.line.state with
  | jammed => exact absurd h hj
  | deferring => exact absurd h hd
  | listening | sending | backoff | congested => rfl

theorem dropCarrier_queue (s : State) : (dropCarrier s).line.queue = s.line.queue := by
  unfold dropCarrier
  cases s.line.state with
  | jammed => exact (resumeLine_frame _).2
  | deferring | listening | sending | backoff | congested => rfl

theorem dropCarrier_carrier (s : State) : (dropCarrier s).line.carrierSince = none := by
  unfold dropCarrier
  cases s.line.state with
  | jammed =>
    show (resumeLine _).line.carrierSince = none
    obtain ⟨-, h⟩ | ⟨-, h⟩ := resumeLine_cases { s with line := { s.line with carrierSince := none } } <;> rw [h] <;> rfl
  | deferring | listening | sending | backoff | congested => rfl

/-- The end of a wait, by the queue and by the carrier. -/
theorem resumeLine_eq (s : State) : resumeLine s = { s with line :=
    if s.line.queue = [] then { s.line with state := .listening, waitDue := none, quietFrom := none }
    else { s.line with
      state := .deferring, waitDue := none, quietFrom := if s.line.carrierSince = none then some s.now else none } } := by
  by_cases hq : s.line.queue = []
  · rw [resumeLine_listening hq, if_pos hq]
    rfl
  · rw [resumeLine_deferring hq, if_neg hq, enterDeferring]
    have hquiet : (if s.line.carrierSince.isSome then none else some s.now) =
        if s.line.carrierSince = none then some s.now else none := by
      cases s.line.carrierSince <;> rfl
    rw [hquiet]

theorem map_notSending_waiting {q : List Notice} (h : ∀ n ∈ q, n.inTransmission = false) : q.map notSending = q := by
  refine (List.map_congr_left fun n hn => ?_).trans (List.map_id q)
  show { n with inTransmission := false } = n
  rw [← h n hn]

/-- Settles O24, one row of the line state after another. -/
theorem carrierAndWaitsMoveTheLineState : Obligations.CarrierAndWaitsMoveTheLineState := by
  refine ⟨fun s => ⟨fun hc => ?rise, fun c hc => ?drop⟩, fun d s hd hr => ?wait, fun c s hc hr hj hs hq hf => ?jam⟩
  case rise =>
    refine if_neg ?_
    rw [hc]
    decide
  case drop =>
    have hex : exec .carrierDrop s = .next (dropCarrier s) := if_pos (by rw [hc]; rfl)
    refine ⟨_, hex, dropCarrier_frame s, dropCarrier_carrier s, dropCarrier_queue s, fun h => ?_, fun h hq => ?_, fun h hq => ?_,
      fun hd hj => ?_⟩
    · rw [dropCarrier_deferring h]
    · rw [dropCarrier_jammed h, resumeLine_listening (s := { s with line := { s.line with carrierSince := none } }) hq]
      rfl
    · rw [dropCarrier_jammed h, resumeLine_deferring (s := { s with line := { s.line with carrierSince := none } }) hq]
      exact ⟨rfl, rfl⟩
    · rw [dropCarrier_else hd hj]
  case wait =>
    intro after
    have hdue : dueBy s.line.waitDue s.now = true := by
      rw [hd]
      exact hr
    exact ⟨fun h => (if_pos ⟨h, hdue⟩).trans (congrArg _ (resumeLine_eq s)),
      fun h => (if_pos ⟨h, hdue⟩).trans (congrArg _ (resumeLine_eq s))⟩
  case jam =>
    have hreach : jamReached s = true := by
      unfold jamReached
      rw [hc]
      exact hr
    have hex : exec .lineJammed s = .next (jamLine s) := if_pos ⟨hj, hreach⟩
    have hcut : cutAttempt s = s := if_neg hs
    have hjam : jamLine s = offerFault .lineJammed none
        { s with line := { s.line with
          state := .jammed, queue := s.line.queue.map notSending, quietFrom := none, waitDue := none } } := by
      unfold jamLine
      rw [hcut]
    have hcapture : captureFault .lineJammed none s.now s.station.fault =
        { code := .lineJammed, time := s.now, detail := none, lost := false } := by
      rw [hf]
      rfl
    rw [hex, hjam, map_notSending_waiting hq, offerFault_eq]
    exact congrArg (fun f => Host.Outcome.next { s with
      line := { s.line with state := .jammed, quietFrom := none, waitDue := none }
      station := { s.station with fault := some f }
      report := { s.report with attn := true } }) hcapture

/-! ## The start of an attempt (O25) -/

theorem gapReached_eq {s : State} {q : Time} (hc : s.line.carrierSince = none) (hq : s.line.quietFrom = some q) (c : NoticeClass) :
    gapReached s c = decide ((gapOf c : Int) ≤ timeDiff s.now q) := by
  unfold gapReached
  rw [hc, hq]
  rfl

/-- Settles O25, by the quiet time. -/
theorem attemptStartsAtTheGap : Obligations.AttemptStartsAtTheGap := by
  intro p n rest q s hc hs hq hcar hquiet gap
  have hgap : (gapOf n.cls : Int) = gap := by
    show (gapOf n.cls : Int) = match n.cls with | .high => 6 | .middle => 8 | .low => 12
    cases n.cls <;> rfl
  show execAttemptStart s = _
  unfold execAttemptStart
  rw [hc, hs, hq]
  show (if gapReached s n.cls then Host.Outcome.next (beginAttempt p n rest s) else .next s) = _
  rw [gapReached_eq hcar hquiet, hgap]
  by_cases h : gap ≤ timeDiff s.now q
  · rw [if_pos h, if_pos (decide_eq_true h)]
    rfl
  · rw [if_neg h, if_neg (by simpa using h)]

end Sys2Proof.Machine
end


section
/-! PROOFS. Chapter 5: the end of an attempt, by completion or by a collision (R58, R75 to R77, R83, R85, R90). -/

namespace Sys2Proof.Machine

/-! ## The pull of an UNSENT entry (R85) -/

/-- What a place owes. -/
def owedOf (q : LogPlace) : Option (LogEntry × Owed) := q.entry.bind fun e => e.unsent.map fun o => (e, o)

theorem owedOf_eq_some {q : LogPlace} {e : LogEntry} {o : Owed} :
    owedOf q = some (e, o) ↔ q.entry = some e ∧ e.unsent = some o := by
  unfold owedOf
  cases q.entry with
  | none => simp
  | some x =>
    simp only [Option.bind_some, Option.map_eq_some_iff, Prod.mk.injEq, Option.some.injEq]
    constructor
    · rintro ⟨y, hy, rfl, rfl⟩
      exact ⟨rfl, hy⟩
    · rintro ⟨rfl, ho⟩
      exact ⟨o, ho, rfl, rfl⟩

theorem firstUnsent_cons_none {q : LogPlace} (l : List LogPlace) (h : owedOf q = none) : firstUnsent (q :: l) = firstUnsent l := by
  rw [firstUnsent]
  change (match owedOf q with
    | none => firstUnsent l
    | some x => match firstUnsent l with
      | none => some x
      | some y => if y.1.number < x.1.number then some y else some x) = _
  rw [h]

theorem firstUnsent_cons_some {q : LogPlace} {x : LogEntry × Owed} (l : List LogPlace) (h : owedOf q = some x) :
    firstUnsent (q :: l) = match firstUnsent l with
      | none => some x
      | some y => if y.1.number < x.1.number then some y else some x := by
  rw [firstUnsent]
  change (match owedOf q with
    | none => firstUnsent l
    | some x => match firstUnsent l with
      | none => some x
      | some y => if y.1.number < x.1.number then some y else some x) = _
  rw [h]

theorem firstUnsent_none {l : List LogPlace} (h : ∀ q ∈ l, owedOf q = none) : firstUnsent l = none := by
  induction l with
  | nil => rfl
  | cons q l ih => exact (firstUnsent_cons_none l (h q (.head _))).trans (ih fun x hx => h x (.tail _ hx))

/-- The entry found is marked, and no marked entry has a lower number. -/
def LeastOwed (x : LogEntry × Owed) (l : List LogPlace) : Prop :=
  (∃ q ∈ l, owedOf q = some x) ∧ ∀ q ∈ l, ∀ y, owedOf q = some y → x.1.number ≤ y.1.number

theorem LeastOwed.cons_none {x : LogEntry × Owed} {l : List LogPlace} {q : LogPlace} (h : LeastOwed x l) (hq : owedOf q = none) :
    LeastOwed x (q :: l) := by
  obtain ⟨⟨r, hr, hrx⟩, hle⟩ := h
  refine ⟨⟨r, .tail _ hr, hrx⟩, List.forall_mem_cons.mpr ⟨fun y hy => ?_, hle⟩⟩
  rw [hq] at hy
  exact nomatch hy

theorem LeastOwed.cons_above {x z : LogEntry × Owed} {l : List LogPlace} {q : LogPlace} (h : LeastOwed x l)
    (hq : owedOf q = some z) (hlt : x.1.number < z.1.number) : LeastOwed x (q :: l) := by
  obtain ⟨⟨r, hr, hrx⟩, hle⟩ := h
  refine ⟨⟨r, .tail _ hr, hrx⟩, List.forall_mem_cons.mpr ⟨fun y hy => ?_, hle⟩⟩
  rw [hq] at hy
  rw [← Option.some.inj hy]
  exact Nat.le_of_lt hlt

theorem LeastOwed.head {z : LogEntry × Owed} {l : List LogPlace} {q : LogPlace} (hq : owedOf q = some z)
    (h : ∀ r ∈ l, ∀ y, owedOf r = some y → z.1.number ≤ y.1.number) : LeastOwed z (q :: l) := by
  refine ⟨⟨q, .head _, hq⟩, List.forall_mem_cons.mpr ⟨fun y hy => ?_, h⟩⟩
  rw [hq] at hy
  rw [Option.some.inj hy]

theorem firstUnsent_least (l : List LogPlace) :
    (∀ q ∈ l, owedOf q = none) ∨ ∃ x, firstUnsent l = some x ∧ LeastOwed x l := by
  induction l with
  | nil => exact .inl fun q hq => absurd hq List.not_mem_nil
  | cons q l ih =>
    cases hq : owedOf q with
    | none =>
      obtain hnone | ⟨x, hx, hleast⟩ := ih
      · exact .inl (List.forall_mem_cons.mpr ⟨hq, hnone⟩)
      · exact .inr ⟨x, (firstUnsent_cons_none l hq).trans hx, hleast.cons_none hq⟩
    | some z =>
      obtain hnone | ⟨x, hx, hleast⟩ := ih
      · refine .inr ⟨z, ?_, .head hq fun r hr y hy => ?_⟩
        · rw [firstUnsent_cons_some l hq, firstUnsent_none hnone]
        · rw [hnone r hr] at hy
          exact nomatch hy
      · by_cases hlt : x.1.number < z.1.number
        · refine .inr ⟨x, ?_, hleast.cons_above hq hlt⟩
          rw [firstUnsent_cons_some l hq, hx]
          exact if_pos hlt
        · refine .inr ⟨z, ?_, .head hq fun r hr y hy => Nat.le_trans (Nat.le_of_not_lt hlt) (hleast.2 r hr y hy)⟩
          rw [firstUnsent_cons_some l hq, hx]
          exact if_neg hlt

theorem firstUnsent_of_lowest {l : List LogPlace} {q : LogPlace} {e : LogEntry} {o : Owed} (hq : q ∈ l) (he : q.entry = some e)
    (ho : e.unsent = some o)
    (hlow : ∀ q' ∈ l, ∀ e', q'.entry = some e' → e'.unsent ≠ none → e' = e ∨ e.number < e'.number) :
    firstUnsent l = some (e, o) := by
  have howed := owedOf_eq_some.mpr ⟨he, ho⟩
  obtain hnone | ⟨⟨e', o'⟩, hx, ⟨r, hr, hrx⟩, hle⟩ := firstUnsent_least l
  · rw [hnone q hq] at howed
    exact nomatch howed
  · obtain ⟨hre, hro⟩ := owedOf_eq_some.mp hrx
    obtain rfl | hlt := hlow r hr e' hre (by rw [hro]; nofun)
    · rw [hx, Option.some.inj (hro.symm.trans ho)]
    · exact absurd (hle q hq _ howed) (Nat.not_le.mpr hlt)

theorem owedOf_of_unsentCount {s : State} (h : unsentCount s = 0) : ∀ q ∈ s.log.places, owedOf q = none := by
  intro q hq
  have hp : placeUnsent q ≠ true := List.countP_eq_zero.mp h q hq
  unfold placeUnsent at hp
  unfold owedOf
  cases he : q.entry with
  | none => rfl
  | some e =>
    rw [he] at hp
    cases ho : e.unsent with
    | none => simp [ho]
    | some o => exact absurd (by simp [ho]) hp

/-- Nothing is pulled while a PASSING or REVISE notice is left, and none where no entry is marked. -/
theorem pullUnsent_nothing {s : State} (h : unsentCount s = 0 ∨ ∃ m ∈ s.line.queue, isTimed m = false) : pullUnsent s = s := by
  unfold pullUnsent
  by_cases hany : s.line.queue.any isPassingOrRevise = true
  · exact if_pos hany
  · obtain hz | ⟨m, hm, ht⟩ := h
    · rw [if_neg hany, firstUnsent_none (owedOf_of_unsentCount hz)]
    · refine absurd (List.any_eq_true.mpr ⟨m, hm, ?_⟩) hany
      unfold isPassingOrRevise
      rw [ht]
      rfl

theorem pullUnsent_pulls {s : State} {e : LogEntry} {o : Owed} (ht : ∀ m ∈ s.line.queue, isTimed m = true)
    (hf : firstUnsent s.log.places = some (e, o)) :
    pullUnsent s =
      settleLine (setQueue (enqueue (freshNotice (pulledBody e o) .high s.now) s.line.queue) (updateLog e.number clearUnsent s)) := by
  have hany : s.line.queue.any isPassingOrRevise = false := List.any_eq_false.mpr fun m hm => by
    unfold isPassingOrRevise
    rw [ht m hm]
    decide
  unfold pullUnsent
  rw [hany, if_neg Bool.false_ne_true, hf]

/-! ## The attempt completed (O26) -/

theorem sentNotice_head {n : Notice} {rest : List Notice} {s : State} (hq : s.line.queue = n :: rest)
    (hn : n.inTransmission = true) : sentNotice s = some n := by
  unfold sentNotice
  rw [hq]
  exact List.find?_cons_of_pos hn

theorem withoutSent_head {n : Notice} {rest : List Notice} (hn : n.inTransmission = true) : withoutSent (n :: rest) = rest :=
  withoutSent_split (before := []) hn nofun

theorem exec_attemptComplete {n : Notice} {rest : List Notice} {s : State} (hs : s.line.state = .sending)
    (hq : s.line.queue = n :: rest) (hn : n.inTransmission = true) :
    exec .attemptComplete s = .next (resumeLine (afterDeparture n (setQueue rest (endAttempt s)))) := by
  show execAttemptComplete s = _
  unfold execAttemptComplete
  rw [hs, sentNotice_head hq hn]
  show Host.Outcome.next (resumeLine (afterDeparture n (setQueue (withoutSent s.line.queue) (endAttempt s)))) = _
  rw [hq, withoutSent_head hn]

/-- The blocks that the line and its log share with the clock unit alone: the rest stand. -/
theorem LineUnit.frame {s t : State} (h : LineUnit s t) : t = { s with clock := t.clock, line := t.line, log := t.log } := by
  rw [← h.pending, ← h.now, ← h.station, ← h.channels, ← h.gather, ← h.table, ← h.report]

theorem settleLine_ended (s : State) :
    (settleLine s).line.frame = s.line.frame ∧ (settleLine s).line.attemptEnd = s.line.attemptEnd := by
  obtain ⟨-, -, h⟩ | ⟨-, -, h⟩ | ⟨-, -, h⟩ := settleLine_cases s <;> rw [h] <;> exact ⟨rfl, rfl⟩

theorem resumeLine_ended (s : State) :
    (resumeLine s).line.frame = s.line.frame ∧ (resumeLine s).line.attemptEnd = s.line.attemptEnd := by
  obtain ⟨-, h⟩ | ⟨-, h⟩ := resumeLine_cases s <;> rw [h] <;> exact ⟨rfl, rfl⟩

theorem pullUnsent_ended (s : State) :
    (pullUnsent s).line.frame = s.line.frame ∧ (pullUnsent s).line.attemptEnd = s.line.attemptEnd := by
  obtain h | ⟨b, e, -, -, h⟩ := pullUnsent_cases s <;> rw [h]
  · exact ⟨rfl, rfl⟩
  · exact settleLine_ended _

theorem afterDeparture_ended (n : Notice) (s : State) :
    (afterDeparture n s).line.frame = s.line.frame ∧ (afterDeparture n s).line.attemptEnd = s.line.attemptEnd := by
  obtain ⟨-, h⟩ | ⟨-, h⟩ | ⟨-, -, h⟩ | ⟨r, -, -, -, h⟩ | ⟨-, -, -, h⟩ := afterDeparture_cases n s <;> rw [h]
  · exact ⟨rfl, rfl⟩
  · exact ⟨rfl, rfl⟩
  · exact ⟨rfl, rfl⟩
  · exact ⟨rfl, rfl⟩
  · exact pullUnsent_ended s

theorem resumeLine_state (s : State) :
    (resumeLine s).line.state = if (resumeLine s).line.queue = [] then .listening else .deferring := by
  rw [(resumeLine_frame s).2]
  obtain ⟨hq, h⟩ | ⟨hq, h⟩ := resumeLine_cases s <;> rw [h]
  · rw [if_pos hq]
    rfl
  · rw [if_neg hq]
    rfl

theorem resumeLine_clock (s : State) : (resumeLine s).clock = s.clock := by rw [(resumeLine_frame s).1]

theorem resumeLine_log (s : State) : (resumeLine s).log = s.log := by rw [(resumeLine_frame s).1]

theorem pullUnsent_clock (s : State) : (pullUnsent s).clock = s.clock := by rw [pullUnsent_frame s]

theorem afterDeparture_clock {n : Notice} (s : State) (hn : n.body ≠ .time) : (afterDeparture n s).clock = s.clock := by
  obtain ⟨ht, -⟩ | ⟨-, h⟩ | ⟨-, -, h⟩ | ⟨r, -, -, -, h⟩ | ⟨-, -, -, h⟩ := afterDeparture_cases n s
  · exact absurd ht hn
  · rw [h]
  · rw [h]
  · rw [h]
    rfl
  · rw [h]
    exact pullUnsent_clock s

theorem afterDeparture_time {n : Notice} (s : State) (hn : n.body = .time) : afterDeparture n s = startTimeTimer s := by
  unfold afterDeparture
  rw [hn]

theorem afterDeparture_status {n : Notice} {f : StatusFields} (s : State) (hn : n.body = .status f) : afterDeparture n s = s := by
  unfold afterDeparture
  rw [hn]

/-- A notice left over from a cleared session brings nothing. -/
theorem afterDeparture_leftOver {n : Notice} (s : State) (ht : isTimed n = false) (hl : n.leftOver = true) :
    afterDeparture n s = s := by
  obtain ⟨hb, -⟩ | ⟨⟨f, hb⟩, -⟩ | ⟨-, -, h⟩ | ⟨r, -, hno, -, -⟩ | ⟨-, hno, -, -⟩ := afterDeparture_cases n s
  · unfold isTimed at ht
    rw [hb] at ht
    exact nomatch ht
  · unfold isTimed at ht
    rw [hb] at ht
    exact nomatch ht
  · exact h
  · exact nomatch hl.symm.trans hno
  · exact nomatch hl.symm.trans hno

/-- The two kinds of notice about passing `x`. -/
def AboutPassing (x tr : Nat) (b : NoticeBody) : Prop := (∃ i w, b = .passing x tr i w) ∨ ∃ r, b = .revise x tr r

theorem afterDeparture_followOn {n : Notice} {x tr : Nat} {r : Revision} (s : State) (hb : AboutPassing x tr n.body)
    (hl : n.leftOver = false) (hf : n.followOn = some r) :
    afterDeparture n s = setQueue (enqueue (freshNotice (.revise x tr r) .high s.now) s.line.queue) s := by
  unfold afterDeparture
  obtain ⟨i, w, hb⟩ | ⟨r', hb⟩ := hb <;> rw [hb, hl, hf] <;> rfl

theorem afterDeparture_pull {n : Notice} {x tr : Nat} (s : State) (hb : AboutPassing x tr n.body) (hl : n.leftOver = false)
    (hf : n.followOn = none) : afterDeparture n s = pullUnsent s := by
  unfold afterDeparture
  obtain ⟨i, w, hb⟩ | ⟨r', hb⟩ := hb <;> rw [hb, hl, hf] <;> rfl

theorem logEntry_clearUnsent (n : Nat) (s : State) (k : Nat) :
    logEntry (updateLog n clearUnsent s) k = (logEntry s k).map fun y => if k = n then { y with unsent := none } else y := by
  by_cases hk : k = n
  · subst hk
    rw [logEntry_updateLog_same]
    simp only [if_true]
    rfl
  · rw [logEntry_updateLog_other _ _ _ _ hk]
    simp only [if_neg hk]
    exact Option.map_id'.symm

/-- Settles O26, by what the departure of the notice brings. -/
theorem completedAttemptLeavesTheQueue : Obligations.CompletedAttemptLeavesTheQueue := by
  intro n rest s hs hq hn fresh
  let u := setQueue rest (endAttempt s)
  have hex := exec_attemptComplete hs hq hn
  obtain ⟨hframe, hend⟩ := afterDeparture_ended n u
  obtain ⟨hrframe, hrend⟩ := resumeLine_ended (afterDeparture n u)
  have hqueue := (resumeLine_frame (afterDeparture n u)).2
  have hlog := resumeLine_log (afterDeparture n u)
  have hclock := resumeLine_clock (afterDeparture n u)
  have hsame : afterDeparture n u = u → (resumeLine (afterDeparture n u)).line.queue = rest ∧
      (resumeLine (afterDeparture n u)).log = s.log := fun h => by
    rw [hqueue, hlog, h]
    exact ⟨rfl, rfl⟩
  have hunit : LineUnit s (resumeLine (afterDeparture n u)) :=
    (((endAttempt_unit s).trans (setQueue_unit rest _)).trans (afterDeparture_unit n u)).trans (resumeLine_unit _)
  refine ⟨_, hex, hunit.frame, resumeLine_state _, hrframe.trans hframe, hrend.trans hend, fun hb => ?_, fun hb => ?_,
    fun f hb => hsame (afterDeparture_status u hb), fun ht hl => hsame (afterDeparture_leftOver u ht hl),
    fun x tr hb hl high low hsplit hhigh hlow => ⟨fun r hf => ?_, fun hf hnone => ?_, fun q e o hf ht hmem he ho hleast => ?_⟩⟩
  · rw [hqueue, hlog, hclock, afterDeparture_time u hb]
    exact ⟨rfl, rfl, rfl⟩
  · exact hclock.trans (afterDeparture_clock u hb)
  · rw [hqueue, hlog, afterDeparture_followOn u hb hl hf]
    refine ⟨rfl, ?_⟩
    show enqueue (fresh (.revise x tr r)) rest = _
    rw [hsplit]
    exact enqueue_high rfl hhigh hlow
  · exact hsame ((afterDeparture_pull u hb hl hf).trans (pullUnsent_nothing hnone))
  · have hpull := (afterDeparture_pull u hb hl hf).trans (pullUnsent_pulls ht (firstUnsent_of_lowest hmem he ho hleast))
    have hplaces : (resumeLine (afterDeparture n u)).log = (updateLog e.number clearUnsent s).log := by
      rw [hlog, hpull, (settleLine_frame _).1]
      rfl
    refine ⟨?_, ?_, fun k => ?_⟩
    · have hpulled : (resumeLine (afterDeparture n u)).line.queue = high ++ fresh (pulledBody e o) :: low := by
        rw [hqueue, hpull, (settleLine_frame _).2]
        show enqueue (fresh (pulledBody e o)) rest = _
        rw [hsplit]
        exact enqueue_high rfl hhigh hlow
      cases o with
      | passing => exact hpulled
      | revise => exact hpulled
    · rw [hplaces]
      rfl
    · rw [← logEntry_clearUnsent]
      unfold logEntry
      rw [hplaces]

/-! ## The collision (O27) -/

theorem exec_collision {n : Notice} {rest : List Notice} {s : State} (draw : Nat) (hs : s.line.state = .sending)
    (hq : s.line.queue = n :: rest) (hn : n.inTransmission = true) : exec (.collision draw) s = .next (collide n draw s) := by
  show execCollision draw s = _
  unfold execCollision
  rw [hs, sentNotice_head hq hn]

/-- A collided notice without follow-on that stays, of whichever kind. -/
theorem collide_stays {n : Notice} (draw : Nat) (s : State) (hf : n.followOn = none) (hl : n.leftOver = false)
    (h : n.collisions < 11 ∨ isTimed n = false) :
    collide n draw s = keepCollided { n with collisions := n.collisions + 1 } draw (endAttempt s) := by
  have hhigh : collideHigh { n with collisions := n.collisions + 1 } draw (endAttempt s) =
      keepCollided { n with collisions := n.collisions + 1 } draw (endAttempt s) := by
    unfold collideHigh applyFollowOn
    rw [hl, hf]
    rfl
  cases ht : isTimed n with
  | false => exact (if_neg (by rw [ht]; decide)).trans hhigh
  | true =>
    have hlt : n.collisions + 1 < Config.lastCollision := by
      obtain h | h := h
      · exact Nat.succ_lt_succ h
      · exact nomatch ht.symm.trans h
    exact (if_pos ht).trans (if_pos hlt)

theorem putSent_head {n m : Notice} {rest : List Notice} (hn : n.inTransmission = true) :
    putSent m (n :: rest) = { m with inTransmission := false } :: rest := if_pos hn

theorem enterBackoff_line (n draw : Nat) {s : State} (hq : s.line.queue ≠ []) :
    (enterBackoff n draw s).line.state = (if backoffSlots n draw = 0 then .deferring else .backoff) ∧
      (enterBackoff n draw s).line.waitDue =
        (if backoffSlots n draw = 0 then none else some (later s.now (100 * backoffSlots n draw))) ∧
      (enterBackoff n draw s).line.queue = s.line.queue ∧ (enterBackoff n draw s).line.frame = s.line.frame ∧
      (enterBackoff n draw s).clock = s.clock := by
  unfold enterBackoff
  by_cases hk : backoffSlots n draw = 0
  · rw [if_pos hk, if_pos hk, if_pos hk, resumeLine_deferring hq]
    exact ⟨rfl, rfl, rfl, rfl, rfl⟩
  · rw [if_neg hk, if_neg hk, if_neg hk]
    exact ⟨rfl, rfl, rfl, rfl, rfl⟩

theorem keepCollided_below {m : Notice} (draw : Nat) (s : State) (h : m.collisions < 12) :
    keepCollided m draw s = enterBackoff m.collisions draw (setQueue (putSent m s.line.queue) s) := if_pos h

theorem keepCollided_twelfth {m : Notice} (draw : Nat) (s : State) (h : ¬ m.collisions < 12) :
    keepCollided m draw s = enterCongested (setQueue (putSent { m with collisions := 0 } s.line.queue) s) := if_neg h

/-- A TIME or STATUS notice is discarded at the twelfth collision. -/
theorem collide_discards {n : Notice} (draw : Nat) (s : State) (ht : isTimed n = true) (h : ¬ n.collisions + 1 < 12) :
    collide n draw s = resumeLine (if n.body = .time then startTimeTimer (setQueue (withoutSent s.line.queue) (endAttempt s))
      else setQueue (withoutSent s.line.queue) (endAttempt s)) := (if_pos ht).trans (if_neg h)

theorem enterBackoff_frame (n draw : Nat) (s : State) :
    enterBackoff n draw s = { s with line := (enterBackoff n draw s).line } ∧
      (enterBackoff n draw s).line.frame = s.line.frame := by
  unfold enterBackoff
  split
  · exact ⟨(resumeLine_frame s).1, (resumeLine_ended s).1⟩
  · exact ⟨rfl, rfl⟩

theorem keepCollided_frame (m : Notice) (draw : Nat) (s : State) :
    keepCollided m draw s = { s with line := (keepCollided m draw s).line } ∧
      (keepCollided m draw s).line.frame = s.line.frame := by
  unfold keepCollided
  split
  · obtain ⟨hframe, hsignal⟩ := enterBackoff_frame m.collisions draw (setQueue (putSent m s.line.queue) s)
    exact ⟨hframe.trans rfl, hsignal⟩
  · exact ⟨rfl, rfl⟩

/-- The collision of a notice without follow-on leaves the log, and nothing is on transmit data after it. -/
theorem collide_frame {n : Notice} (draw : Nat) (s : State) (hf : n.followOn = none) (hl : n.leftOver = false) :
    collide n draw s = { s with clock := (collide n draw s).clock, line := (collide n draw s).line } ∧
      (collide n draw s).line.frame = [] := by
  by_cases h : n.collisions < 11 ∨ isTimed n = false
  · rw [collide_stays draw s hf hl h]
    obtain ⟨hframe, hsignal⟩ := keepCollided_frame { n with collisions := n.collisions + 1 } draw (endAttempt s)
    refine ⟨?_, hsignal⟩
    rw [hframe]
    rfl
  · obtain ⟨hlt, ht⟩ := not_or.mp h
    rw [collide_discards draw s (by simpa using ht) (by omega)]
    refine ⟨?_, (resumeLine_ended _).1.trans ?_⟩
    · rw [(resumeLine_frame _).1]
      split <;> rfl
    · split <;> rfl

/-- Settles O27, by the count that the collision reaches and the kind of the notice. -/
theorem collisionBacksOffOrEndsTheRun : Obligations.CollisionBacksOffOrEndsTheRun := by
  intro draw n rest s hs hq hn hf hl
  have hput : ∀ m, putSent m (endAttempt s).line.queue = { m with inTransmission := false } :: rest := fun m => by
    rw [endAttempt_line_queue, hq, putSent_head hn]
  have hrest : withoutSent s.line.queue = rest := by
    rw [hq, withoutSent_head hn]
  obtain ⟨hframe, hsignal⟩ := collide_frame draw s hf hl
  refine ⟨_, exec_collision draw hs hq hn, hframe, hsignal, fun hlt => ?below, fun h11 ht => ?discarded, fun h11 ht => ?congested⟩
  case below =>
    rw [collide_stays draw s hf hl (.inl hlt), keepCollided_below draw _ (Nat.succ_lt_succ hlt), hput]
    obtain ⟨hstate, hwait, hqueue, -, hclock⟩ := enterBackoff_line (n.collisions + 1) draw
      (s := setQueue ({ n with collisions := n.collisions + 1, inTransmission := false } :: rest) (endAttempt s)) nofun
    exact ⟨hclock, hqueue, backoffSlots (n.collisions + 1) draw, backoffSlots_lt _ _, Nat.mod_mod _ _, hstate, hwait⟩
  case discarded =>
    rw [collide_discards draw s ht (by omega), hrest, (resumeLine_frame _).2, resumeLine_clock, resumeLine_state,
      (resumeLine_frame _).2]
    split <;> exact ⟨rfl, rfl, rfl⟩
  case congested =>
    rw [collide_stays draw s hf hl (.inr ht), keepCollided_twelfth draw _ (by show ¬ n.collisions + 1 < 12; omega), hput]
    exact ⟨rfl, rfl, rfl, rfl⟩

end Sys2Proof.Machine
end


section
/-! PROOFS. Chapter 11: numbers as bytes, the loop line frame and its reception, and the request frames (R86, R169, R171, R172). -/

namespace Sys2Proof.Machine

/-! ## Numbers as bytes -/

@[simp] theorem length_toBytes (w v : Nat) : (toBytes w v).length = w := by
  induction w generalizing v with
  | zero => rfl
  | succ w ih => rw [toBytes, List.length_append, ih]; rfl

theorem fromBytes_concat (bs : List Byte) (b : Byte) : fromBytes (bs ++ [b]) = fromBytes bs * 256 + b.toNat :=
  List.foldl_append

/-- The bytes of a number spell it, modulo what they can hold. -/
theorem fromBytes_toBytes (w v : Nat) : fromBytes (toBytes w v) = v % 256 ^ w := by
  induction w generalizing v with
  | zero => exact (Nat.mod_one v).symm
  | succ w ih =>
    have hpow : 256 ^ (w + 1) = 256 * 256 ^ w := Nat.pow_succ'
    rw [toBytes, fromBytes_concat, ih, BitVec.toNat_ofNat, hpow, Nat.mod_mul]
    omega

theorem fromBytes_toBytes_of_lt {w v : Nat} (h : v < 256 ^ w) : fromBytes (toBytes w v) = v := by
  rw [fromBytes_toBytes, Nat.mod_eq_of_lt h]

theorem fieldAt_head (w v : Nat) (rest : List Byte) (h : v < 256 ^ w) : fieldAt (toBytes w v ++ rest) 0 w = v := by
  unfold fieldAt
  rw [List.drop_zero, List.take_left' (length_toBytes w v), fromBytes_toBytes_of_lt h]

theorem fieldAt_only (w v : Nat) (h : v < 256 ^ w) : fieldAt (toBytes w v) 0 w = v := by
  have hf := fieldAt_head w v [] h
  rwa [List.append_nil] at hf

theorem fieldAt_skip (w v i n : Nat) (rest : List Byte) (h : w ≤ i) :
    fieldAt (toBytes w v ++ rest) i n = fieldAt rest (i - w) n := by
  unfold fieldAt
  rw [List.drop_append, length_toBytes, List.drop_eq_nil_of_le (by rw [length_toBytes]; exact h), List.nil_append]

/-! ## The start delimiter (R169) -/

/-- A bit that is not set begins no start delimiter. -/
theorem afterDelimiter_idle (idle : Nat) (bits : List Bool) :
    afterDelimiter (List.replicate idle false ++ bits) = afterDelimiter bits := by
  induction idle with
  | zero => rfl
  | succ idle ih =>
    rw [List.replicate_succ, List.cons_append, afterDelimiter, if_neg, ih]
    intro h
    have hhead := congrArg List.head? h
    rw [List.take_succ_cons] at hhead
    exact nomatch hhead

/-- No delimiter stands across the preamble, wherever its reception begins. -/
theorem afterDelimiter_dropped {lost : Nat} (h : lost ≤ 32) (bits : List Bool) :
    afterDelimiter ((lineBits frameLead ++ bits).drop lost) = some bits := by
  interval_cases lost <;> rfl

/-- The receive path takes the bytes behind the delimiter, whatever idle bits and part of the preamble come before it. -/
theorem receiveFrame_dropped (origin position idle lost : Nat) (send : Time) (b : NoticeBody) (h : lost ≤ 32) :
    receiveFrame (List.replicate idle false ++ (buildFrame origin position send b).drop lost) =
      receiveFrame (buildFrame origin position send b) := by
  have hbits : buildFrame origin position send b = lineBits frameLead ++
      lineBits (frameCore origin position send b ++ toBytes 2 (crc (frameCore origin position send b)).toNat) := by
    simp [buildFrame, frameBytes, lineBits]
  unfold receiveFrame
  rw [afterDelimiter_idle, hbits, afterDelimiter_dropped h, afterDelimiter_frameLead]

/-! ## The bytes of a frame (R86, R169) -/

theorem toBytes_one (v : Nat) : toBytes 1 v = [BitVec.ofNat 8 v] := rfl

/-- A body of its kind's length behind a kind and an origin, with its CRC, passes the checks. -/
theorem noticeOfBytes_checked {kind origin : Byte} {body : List Byte} {len : Nat} (hk : bodyLength kind.toNat = some len)
    (hl : body.length = len) (ho : 1 ≤ origin.toNat ∧ origin.toNat ≤ 31) :
    noticeOfBytes (kind :: origin :: (body ++ toBytes 2 (crc (kind :: origin :: body)).toNat)) =
      noticeOfBody kind.toNat origin.toNat body := by
  have htake : (body ++ toBytes 2 (crc (kind :: origin :: body)).toNat).take len = body := List.take_left' hl
  have hdrop : (body ++ toBytes 2 (crc (kind :: origin :: body)).toNat).drop len =
      toBytes 2 (crc (kind :: origin :: body)).toNat := List.drop_left' hl
  simp only [noticeOfBytes, hk, htake, hdrop]
  refine if_pos ⟨?_, ?_, ho.1, ho.2⟩
  · rw [List.length_append, hl, length_toBytes]
  · rw [fromBytes_toBytes_of_lt (crc (kind :: origin :: body)).isLt]

/-- The notice as a peer of the sender takes it. -/
def receivedNotice (origin position : Nat) (send : Time) : NoticeBody → RxNotice
  | .time => .time origin send position
  | .status f => .status origin f
  | .passing n t i w => .passing origin n t i w
  | .revise n t r => .revise origin n t r

/-- The values of a STATUS notice lie in their widths (11.1). -/
def StatusFields.Fits (f : StatusFields) : Prop :=
  f.stationState < 256 ∧ f.arrangement < 256 ∧ f.lapLine < 256 ∧ f.feeder1 < 256 ∧ f.feeder2 < 256 ∧
    f.feeder3 < 256 ∧ f.fault < 256 ∧ f.latest < 4294967296 ∧ f.unsent < 65536

/-- A passing number and a transponder id that a frame admits (R86). -/
def TagFits (n t : Nat) : Prop := 1 ≤ n ∧ n ≤ 4294967295 ∧ 1 ≤ t ∧ t ≤ 16777214

/-- The values of a notice lie in their ranges (11.1, R86). -/
def NoticeBody.Fits : NoticeBody → Prop
  | .time => True
  | .status f => StatusFields.Fits f
  | .passing n t _ _ => TagFits n t
  | .revise n t _ => TagFits n t

theorem tagFieldsValid_of_fits {n t : Nat} (h : TagFits n t) : tagFieldsValid n t = true := by
  obtain ⟨hn, -, ht, ht'⟩ := h
  have hne : n ≠ 0 := by omega
  simp [tagFieldsValid, hne, ht, show t ≤ Config.lastTransponder from ht']

theorem statusOfBytes_statusBytes {f : StatusFields} (h : StatusFields.Fits f) : statusOfBytes (statusBytes f) = f := by
  obtain ⟨h1, h2, h3, h4, h5, h6, h7, h8, h9⟩ := h
  simp only [statusOfBytes, statusBytes, List.append_assoc, fieldAt_skip, fieldAt_head, fieldAt_only, Nat.reduceLeDiff,
    Nat.reduceSub, Nat.reducePow, h1, h2, h3, h4, h5, h6, h7, h8, h9]

theorem noticeOfBody_built {origin position : Nat} {send : Time} {b : NoticeBody} (hp : b = .time → position ≤ 65535)
    (hb : NoticeBody.Fits b) :
    noticeOfBody (noticeKindCode b) origin (noticeBodyBytes position send b) = some (receivedNotice origin position send b) := by
  have htime : ∀ t : Time, t.toNat < 256 ^ 6 := fun t => t.isLt
  cases b with
  | time =>
    have hposition := hp rfl
    simp only [noticeOfBody, noticeKindCode, noticeBodyBytes, fieldAt_skip, fieldAt_head, fieldAt_only, Nat.reduceLeDiff,
      Nat.reduceSub, htime, show position < 256 ^ 2 by omega, BitVec.ofNat_toNat]
    rfl
  | status f =>
    show some (RxNotice.status origin (statusOfBytes (statusBytes f))) = _
    rw [statusOfBytes_statusBytes hb]
    rfl
  | passing n t i w =>
    obtain ⟨hn, hn', ht, ht'⟩ := hb
    have htag := tagFieldsValid_of_fits ⟨hn, hn', ht, ht'⟩
    simp only [noticeOfBody, noticeKindCode, noticeBodyBytes, List.append_assoc, fieldAt_skip, fieldAt_head, fieldAt_only,
      Nat.reduceLeDiff, Nat.reduceSub, htime, show n < 256 ^ 4 by omega, show t < 256 ^ 3 by omega,
      show w.toNat < 256 ^ 2 from w.isLt, htag, if_true, BitVec.ofNat_toNat]
    rfl
  | revise n t r =>
    obtain ⟨hn, hn', ht, ht'⟩ := hb
    have htag := tagFieldsValid_of_fits ⟨hn, hn', ht, ht'⟩
    cases r <;>
      simp only [noticeOfBody, noticeKindCode, noticeBodyBytes, revisionBytes, List.append_assoc, fieldAt_skip, fieldAt_head,
        fieldAt_only, Nat.reduceLeDiff, Nat.reduceSub, htime, show n < 256 ^ 4 by omega, show t < 256 ^ 3 by omega,
        show 1 < 256 ^ 1 by decide, show 2 < 256 ^ 1 by decide, htag, if_true, BitVec.ofNat_toNat] <;>
      rfl

theorem bodyLength_built (position : Nat) (send : Time) (b : NoticeBody) :
    bodyLength (noticeKindCode b) = some (noticeBodyBytes position send b).length := by
  cases b with
  | time | status f | passing n t i w => simp [noticeKindCode, noticeBodyBytes, statusBytes, bodyLength]
  | revise n t r => cases r <;> simp [noticeKindCode, noticeBodyBytes, revisionBytes, bodyLength]

/-- A frame that arrives gives the notice that was sent. -/
theorem receiveFrame_built {origin position : Nat} {send : Time} {b : NoticeBody} (ho : 1 ≤ origin) (ho' : origin ≤ 31)
    (hp : b = .time → position ≤ 65535) (hb : NoticeBody.Fits b) :
    receiveFrame (buildFrame origin position send b) = some (receivedNotice origin position send b) := by
  have hkind : (BitVec.ofNat 8 (noticeKindCode b)).toNat = noticeKindCode b := by cases b <;> rfl
  have horigin : (BitVec.ofNat 8 origin).toNat = origin := by
    rw [BitVec.toNat_ofNat]
    omega
  have hcore : frameCore origin position send b =
      BitVec.ofNat 8 (noticeKindCode b) :: BitVec.ofNat 8 origin :: noticeBodyBytes position send b := rfl
  rw [receiveFrame_buildFrame, hcore, List.cons_append, List.cons_append,
    noticeOfBytes_checked (hkind.symm ▸ bodyLength_built position send b) rfl (horigin.symm ▸ ⟨ho, ho'⟩), hkind, horigin,
    noticeOfBody_built hp hb]

/-- Settles O29: idle bits and a part of the preamble change nothing, and a frame built arrives as its notice. -/
theorem framesArriveAsTheyWereSent : Obligations.FramesArriveAsTheyWereSent := by
  intro origin position idle lost send b ho ho' hp hl hpassing hrevise hstatus
  have hb : NoticeBody.Fits b := by
    cases b with
    | time => trivial
    | status f => exact hstatus f rfl
    | passing n t i w => exact hpassing n t i w rfl
    | revise n t r => exact hrevise n t r rfl
  rw [receiveFrame_dropped origin position idle lost send b hl, receiveFrame_built ho ho' (fun _ => hp) hb]
  cases b <;> rfl

/-! ## Request frames (O60) -/

/-- Values of the widths given, one for each. -/
def FieldsFit (ws vs : List Nat) : Prop := List.Forall₂ (fun w v => v < 256 ^ w) ws vs

theorem length_joinFields {ws vs : List Nat} (h : FieldsFit ws vs) : (joinFields ws vs).length = ws.sum := by
  induction h with
  | nil => rfl
  | cons _ _ ih => rw [joinFields, List.length_append, length_toBytes, ih, List.sum_cons]

theorem splitFields_joinFields {ws vs : List Nat} (h : FieldsFit ws vs) : splitFields ws (joinFields ws vs) = vs := by
  induction h with
  | nil => rfl
  | cons hv _ ih =>
    rw [joinFields, splitFields, List.take_left' (length_toBytes _ _), List.drop_left' (length_toBytes _ _),
      fromBytes_toBytes_of_lt hv, ih]

/-- A request of a code with arguments of its widths decodes to the command of the code with these arguments. -/
theorem decodeRequest_requestFrame {code : Nat} {ws vs : List Nat} (levels : PerChannel Nat) (hc : code < 256)
    (hw : requestWidths code = some ws) (hs : ws.sum < 256) (hv : FieldsFit ws vs) :
    decodeRequest levels (requestFrame code vs) = commandOf levels code (fun k => vs.getD k 0) := by
  have hcode : (BitVec.ofNat 8 code).toNat = code := (BitVec.toNat_ofNat ..).trans (Nat.mod_eq_of_lt hc)
  have hlen : (BitVec.ofNat 8 (joinFields ws vs).length).toNat = (joinFields ws vs).length := by
    rw [length_joinFields hv]
    exact (BitVec.toNat_ofNat ..).trans (Nat.mod_eq_of_lt hs)
  have hframe : requestFrame code vs =
      BitVec.ofNat 8 code :: BitVec.ofNat 8 (joinFields ws vs).length :: joinFields ws vs := by
    unfold requestFrame
    rw [hw]
    rfl
  rw [hframe, decodeRequest, if_pos hlen.symm, hcode, commandOfRequest, hw]
  show (if ws.sum = (joinFields ws vs).length then _ else _) = _
  rw [if_pos (length_joinFields hv).symm, splitFields_joinFields hv]

theorem decodeRequest_unknown {code length : Nat} (levels : PerChannel Nat) (hc : code < 256) (hl : length < 256)
    (hn : argLength code ≠ some length) :
    decodeRequest levels (toBytes 1 code ++ toBytes 1 length ++ List.replicate length 0) = some (.unknownCommand code length) := by
  have hcode : (BitVec.ofNat 8 code).toNat = code := (BitVec.toNat_ofNat ..).trans (Nat.mod_eq_of_lt hc)
  have hlen : (BitVec.ofNat 8 length).toNat = length := (BitVec.toNat_ofNat ..).trans (Nat.mod_eq_of_lt hl)
  show decodeRequest levels (BitVec.ofNat 8 code :: BitVec.ofNat 8 length :: List.replicate length 0) = _
  rw [decodeRequest, if_pos (List.length_replicate.trans hlen.symm), hcode, commandOfRequest]
  unfold argLength at hn
  cases hw : requestWidths code with
  | none => simp
  | some ws =>
    rw [hw] at hn
    simp only [List.length_replicate]
    exact if_neg fun h => hn (congrArg some h)

theorem fitsBytes_iff (w n : Nat) : fitsBytes w n = true ↔ n < 256 ^ w := decide_eq_true_iff

/-- A signed value in its width comes back from two's complement. -/
theorem signedOfNat_signedNat_two {v : Int} (hl : -32768 ≤ v) (hu : v ≤ 32767) : signedOfNat 2 (signedNat 2 v) = v := by
  unfold signedOfNat signedNat
  norm_num
  split <;> omega

theorem signedNat_two_lt (v : Int) : signedNat 2 v < 256 ^ 2 := by
  unfold signedNat
  norm_num
  omega

theorem channelArgs_fit {c : ChannelArgs} (h : c.wellFormed = true) : FieldsFit channelWidths (channelArgFields c) := by
  simp only [ChannelArgs.wellFormed, Bool.and_eq_true, fitsBytes_iff] at h
  obtain ⟨⟨⟨⟨h1, h2⟩, h3⟩, h4⟩, h5⟩ := h
  exact .cons h1 (.cons h2 (.cons h3 (.cons h4 (.cons h5 .nil))))

theorem configArgs_fit {a : ConfigArgs} (h : a.wellFormed = true) : FieldsFit configWidths (configArgFields a) := by
  simp only [ConfigArgs.wellFormed, Bool.and_eq_true, fitsBytes_iff, decide_eq_true_eq] at h
  have ha : FieldsFit channelWidths (channelArgFields a.channels.a) := channelArgs_fit (by tauto)
  have hb : FieldsFit channelWidths (channelArgFields a.channels.b) := channelArgs_fit (by tauto)
  have hc : FieldsFit channelWidths (channelArgFields a.channels.c) := channelArgs_fit (by tauto)
  have hcal := signedNat_two_lt a.calibration
  unfold FieldsFit configWidths configArgFields
  refine List.rel_append (List.rel_append (List.rel_append (List.rel_append ?_ ha) hb) hc) ?_
  · simp only [List.forall₂_cons, List.forall₂_nil_left_iff]
    tauto
  · simp only [List.forall₂_cons, List.forall₂_nil_left_iff]
    tauto

/-- The numbers of a CONFIGURE request give back its arguments, the calibration from two's complement. -/
theorem configArgsOf_configArgFields {a : ConfigArgs} (hl : -32768 ≤ a.calibration) (hu : a.calibration ≤ 32767) :
    configArgsOf (fun k => (configArgFields a).getD k 0) = a := by
  have hcal : signedOfNat 2 ((configArgFields a).getD 30 0) = a.calibration := signedOfNat_signedNat_two hl hu
  show { a with calibration := signedOfNat 2 ((configArgFields a).getD 30 0) } = a
  rw [hcal]

/-- Settles O60, command by command: its code's widths take its arguments. -/
theorem requestFramesDecodeToTheirCommands : Obligations.RequestFramesDecodeToTheirCommands := by
  intro c levels frame hc hlevels hframe
  cases c with
  | configure a l =>
    obtain rfl := Option.some.inj hframe
    obtain rfl := hlevels a l rfl
    have hfit : a.wellFormed = true := (Bool.and_eq_true_iff.mp hc).1
    rw [decodeRequest_requestFrame l (by decide) rfl (by decide) (configArgs_fit hfit)]
    simp only [ConfigArgs.wellFormed, Bool.and_eq_true, decide_eq_true_eq] at hfit
    show some (Instr.configure (configArgsOf fun k => (configArgFields a).getD k 0) l) = _
    rw [configArgsOf_configArgFields (by tauto) (by tauto)]
  | unknownCommand code length =>
    obtain rfl := Option.some.inj hframe
    simp only [Instr.wellFormed, Bool.and_eq_true, fitsBytes_iff, bne_iff_ne] at hc
    obtain ⟨⟨hcode, hlen⟩, hne⟩ := hc
    exact decodeRequest_unknown levels hcode hlen hne
  | poll | configRead | rosterClear | startSession | halt | restart | statusRead | faultRead | faultClear | overrunClear =>
    obtain rfl := Option.some.inj hframe
    exact decodeRequest_requestFrame levels (by decide) rfl (by decide) .nil
  | reportRead x | slotRead x | peerRead x | guardRearm x | withdraw x =>
    obtain rfl := Option.some.inj hframe
    exact decodeRequest_requestFrame levels (by decide) rfl (by decide) (.cons ((fitsBytes_iff _ _).mp hc) .nil)
  | rosterPut x y | logRead x y | snapshot x y | retime x y | mark x y =>
    obtain rfl := Option.some.inj hframe
    obtain ⟨hx, hy⟩ := Bool.and_eq_true_iff.mp hc
    exact decodeRequest_requestFrame levels (by decide) rfl (by decide)
      (.cons ((fitsBytes_iff _ _).mp hx) (.cons ((fitsBytes_iff _ _).mp hy) .nil))
  | _ => exact nomatch hframe

end Sys2Proof.Machine
end


section
/-! PROOFS. Chapter 5: what the station takes from the frames on receive data (R60, R61, R67 to R69, R86 to R89). -/

namespace Sys2Proof.Machine

variable {p : Params} {s : State} {receive : Time}

theorem exec_frameReceived {signal : List Bool} {n : RxNotice} (hc : s.station.conf = some p) (hr : receiveFrame signal = some n) :
    exec (.frameReceived signal receive) s = .next (takeFrame p n receive s) := by
  show execFrameReceived signal receive s = _
  unfold execFrameReceived
  rw [hc, hr]

/-- A frame built by another station, outside the own attempts, is dispatched. -/
theorem exec_built {origin position : Nat} {k : Fin 31} {send : Time} {b : NoticeBody} (hc : s.station.conf = some p)
    (hk : peerIndex origin = some k) (hne : origin ≠ p.stationNumber) (how : ownFrame receive s = false)
    (hp : b = .time → position ≤ 65535) (hb : NoticeBody.Fits b) :
    exec (.frameReceived (buildFrame origin position send b) receive) s =
      .next (dispatchNotice p (receivedNotice origin position send b) receive s) := by
  have hi := (peerIndex_eq_some origin k).mp hk
  have hk31 := k.isLt
  have horigin : rxOrigin (receivedNotice origin position send b) = origin := by cases b <;> rfl
  rw [exec_frameReceived hc (receiveFrame_built (by omega) (by omega) hp hb)]
  unfold takeFrame
  rw [how, horigin]
  exact congrArg _ ((if_neg (by decide)).trans (if_neg hne))

/-! ## TIME and STATUS notices (O19) -/

theorem stationState_clearing (hc : s.station.conf = some p) : stationState s = .clearing ↔ s.station.mode = .clearing := by
  unfold stationState
  rw [hc]
  cases s.station.mode <;> simp

theorem takeStatus_eq {n : Nat} {k : Fin 31} (f : StatusFields) (hk : peerIndex n = some k) :
    takeStatus n f receive s = setPeer k { peerOf s k with status := some (f, receive) } s := by
  unfold takeStatus
  rw [hk]

/-- A usable sample acquires the UNHEARD record of a station that is no feeder. -/
theorem takeTime_acquires {n position : Nat} {k : Fin 31} {send : Time} (hk : peerIndex n = some k) (hf : n ∉ p.feeders)
    (hp : position ≤ 8000) (hu : (peerOf s k).clock = .unheard)
    (hs : (timeSample receive send (lineDelay p.position position)).natAbs ≤ 1099511627775) :
    takeTime p n send position receive s = setPeer k (heardAt receive (acquirePeer
      (timeSample receive send (lineDelay p.position position)) { peerOf s k with position := some position })) s := by
  have hposition : peerPosition position = position := Nat.min_eq_left hp
  have hfeeder : isFeeder p n = false := Bool.eq_false_iff.mpr fun h => hf ((isFeeder_iff p n).mp h)
  unfold takeTime
  rw [hk]
  simp only [hposition]
  rw [if_pos (show usable _ = true from decide_eq_true hs),
    sampleMove_of_unheard _ { peerOf s k with position := some position } hu]
  unfold reportPeer
  rw [hfeeder]
  rfl

/-- Settles O19, by the kind of the notice. -/
theorem timeFrameAcquiresThePeer : Obligations.TimeFrameAcquiresThePeer := by
  intro p n position k send receive s hc hk hne how keepsOthers
  refine ⟨fun hf hp hu => ?time, fun f h1 h2 h3 h4 h5 h6 h7 h8 h9 => ?status⟩
  case time =>
    intro delay sample hs
    have hex := exec_built (position := position) (send := send) (b := .time) hc hk hne how
      (fun _ => Nat.le_trans hp (by decide)) trivial
    obtain ⟨hframe, hclock, hother, hsame⟩ := setPeer_frame k
      (heardAt receive (acquirePeer sample { peerOf s k with position := some position })) s
    exact ⟨_, hex.trans (congrArg _ (takeTime_acquires hk hf hp hu hs)), ⟨hframe, hclock, hother⟩, hsame⟩
  case status =>
    have hex := exec_built (position := position) (send := send) (b := .status f) hc hk hne how nofun
      ⟨h1, h2, h3, h4, h5, h6, h7, h8, h9⟩
    have hdispatch : dispatchNotice p (receivedNotice n position send (.status f)) receive s =
        if stationState s = .clearing then s else takeStatus n f receive s := rfl
    refine ⟨fun hm => ?_, fun hm => ?_⟩
    · obtain ⟨hframe, hclock, hother, hsame⟩ := setPeer_frame k { peerOf s k with status := some (f, receive) } s
      refine ⟨_, hex.trans (congrArg _ (hdispatch.trans ((if_neg fun h => hm ((stationState_clearing hc).mp h)).trans
        (takeStatus_eq f hk)))), ⟨hframe, hclock, hother⟩, hsame⟩
    · exact hex.trans (congrArg _ (hdispatch.trans (if_pos ((stationState_clearing hc).mpr hm))))

/-! ## Feeder items (O28) -/

theorem takeFeederItem_taken {origin : Nat} (x : IntakeItem) (hc : s.station.conf = some p) (hm : s.station.mode = .running)
    (hf : origin ∈ p.feeders) : takeFeederItem p origin x s = offerIntake x s := by
  unfold takeFeederItem
  rw [isRunning_of_mode hc hm, (isFeeder_iff p origin).mpr hf]
  rfl

theorem takeFeederItem_discarded {origin : Nat} (x : IntakeItem) (h : s.station.mode ≠ .running ∨ origin ∉ p.feeders) :
    takeFeederItem p origin x s = s := by
  refine if_neg fun hand => ?_
  obtain ⟨hr, hf⟩ := Bool.and_eq_true_iff.mp hand
  obtain hm | hn := h
  · exact absurd hr (by rw [isRunning_eq_false hm]; decide)
  · exact hn ((isFeeder_iff p origin).mp hf)

/-- The intake queue after an item is offered, or LINE_OVERRUN. -/
theorem offerIntake_line (x : IntakeItem) : offerIntake x s = { s with line :=
    if s.line.intake.length < 32 then { s.line with intake := s.line.intake ++ [x] } else { s.line with overrun := true } } := by
  unfold offerIntake
  show (if s.line.intake.length < 32 then _ else _) = _
  split <;> rfl

/-- The conversion by the record of the origin, state by state (R67, R68). -/
theorem convertFrom_eq {origin : Nat} {k : Fin 31} (hk : peerIndex origin = some k) (t : Time) :
    convertFrom s origin t =
      ((match (peerOf s k).clock with
        | .unheard => none
        | _ => some (t + BitVec.ofInt 48 (roundHalfAway ((peerOf s k).offset.getD 0) 16))),
      match (peerOf s k).clock with
        | .locked => .plain
        | .unheard => .noClock
        | _ => .soft) := by
  unfold convertFrom
  rw [hk]
  show convertBy (peerOf s k) t = _
  unfold convertBy
  cases (peerOf s k).clock <;> rfl

/-- Settles O28: a frame of another station through its dispatch, and the frames that are not dispatched. -/
theorem framesEnterTheIntakeOrShowADuplicate : Obligations.FramesEnterTheIntakeOrShowADuplicate := by
  refine ⟨fun p origin number transponder position k send instant receive w s hc hne hk hn hn' ht ht' how => ?_,
    fun signal receive s => ⟨fun h => ?discarded, fun p n hc hr ho how => ?duplicate⟩⟩
  case discarded =>
    show execFrameReceived signal receive s = _
    unfold execFrameReceived
    cases hc : s.station.conf with
    | none => rfl
    | some p =>
      cases hr : receiveFrame signal with
      | none => rfl
      | some n =>
        obtain h | h | h := h
        · exact nomatch hr.symm.trans h
        · exact nomatch hc.symm.trans h
        · exact congrArg _ (if_pos h)
  case duplicate =>
    have hcapture : captureFault .duplicateStation (some p.stationNumber) s.now s.station.fault =
        match s.station.fault with
          | none => { code := .duplicateStation, time := s.now, detail := some p.stationNumber, lost := false }
          | some f => { f with lost := true } := by
      cases s.station.fault <;> rfl
    have htake : takeFrame p n receive s = offerFault .duplicateStation (some p.stationNumber) s :=
      (if_neg (by rw [how]; decide)).trans (if_pos ho)
    rw [exec_frameReceived hc hr, htake, offerFault_eq]
    exact congrArg (fun f => Host.Outcome.next { s with
      station := { s.station with fault := some f }
      report := { s.report with attn := true } }) hcapture
  intro passing retime withdraw converted flag taken
  have htag : TagFits number transponder := ⟨hn, hn', ht, ht'⟩
  have hpassing := exec_built (position := position) (send := send) (b := .passing number transponder instant w) hc hk hne how
    nofun htag
  have hretime := exec_built (position := position) (send := send) (b := .revise number transponder (.retime instant)) hc hk hne
    how nofun htag
  have hwithdraw := exec_built (position := position) (send := send) (b := .revise number transponder .withdraw) hc hk hne how
    nofun htag
  have hconvert : convertFrom s origin instant = (converted, flag) := convertFrom_eq hk instant
  have hpassingItem : passingItem s origin number transponder instant w =
      { tag := ⟨origin, number⟩, transponder := transponder, body := .passing converted flag w } := by
    unfold passingItem
    rw [hconvert]
  have hretimeItem : reviseItem s origin number transponder (.retime instant) =
      { tag := ⟨origin, number⟩, transponder := transponder, body := .retime converted flag } := by
    unfold reviseItem
    simp only [hconvert]
  refine ⟨fun hm hf => ⟨?_, ?_, ?_⟩, fun h => ⟨?_, ?_, ?_⟩⟩
  · refine hpassing.trans (congrArg _ ((takeFeederItem_taken _ hc hm hf).trans ?_))
    rw [hpassingItem, offerIntake_line]
  · refine hretime.trans (congrArg _ ((takeFeederItem_taken _ hc hm hf).trans ?_))
    rw [hretimeItem, offerIntake_line]
  · exact hwithdraw.trans (congrArg _ ((takeFeederItem_taken _ hc hm hf).trans (offerIntake_line _)))
  · exact hpassing.trans (congrArg _ (takeFeederItem_discarded _ h))
  · exact hretime.trans (congrArg _ (takeFeederItem_discarded _ h))
  · exact hwithdraw.trans (congrArg _ (takeFeederItem_discarded _ h))

end Sys2Proof.Machine
end


section
/-! PROOFS. Chapter 6: the TIMER queue, the arbiter, held commands, the roster and reclaim (R95, R96, R98, R101 to R107). -/

namespace Sys2Proof.Machine

variable {p : Params} {s : State}

/-! ## Entries that fall due (O31) -/

/-- A list with one entry changed. -/
theorem map_one {α : Type} {f : α → α} {before after : List α} (e : α) (h : ∀ x ∈ before ++ after, f x = x) :
    (before ++ e :: after).map f = before ++ f e :: after := by
  have hb : before.map f = before := (List.map_congr_left fun x hx => h x (List.mem_append_left _ hx)).trans (List.map_id' before)
  have ha : after.map f = after := (List.map_congr_left fun x hx => h x (List.mem_append_right _ hx)).trans (List.map_id' after)
  rw [List.map_append, List.map_cons, hb, ha]

/-- Settles O31, list by list. -/
theorem dueEntriesJoinTheTimerQueue : Obligations.DueEntriesJoinTheTimerQueue := by
  intro i s
  refine ⟨fun before e after hl he ho hr => ?_, fun before e after hl he ho hr => ?_, fun before e after hl he ho hr => ?_,
    fun before e after hl he ho hr => ?_⟩
  · show execPairWaitDue i s = _
    rw [execPairWaitDue, hl, map_one e fun x hx => if_neg fun h => ho x hx h.1, if_pos ⟨he, hr⟩]
  · show execSettleDue i s = _
    rw [execSettleDue, hl, map_one e fun x hx => if_neg fun h => ho x hx h.1, if_pos ⟨he, hr⟩]
  · show execWatchDue i s = _
    rw [execWatchDue, hl, map_one e fun x hx => if_neg fun h => ho x hx h.1, if_pos ⟨he, hr⟩]
  · show execTrapWaitDue i s = _
    rw [execTrapWaitDue, hl, map_one e fun x hx => if_neg fun h => ho x hx h.1, if_pos ⟨he, hr⟩]

/-! ## The arbiter's choice (O32) -/

theorem find_waitingInOrder (p : Params) (s : State) :
    (waitingInOrder p s).find? (overdue p s) =
      (modeOrder p.arbiterMode).find? fun r => waits s r && overdue p s r := by
  simp only [waitingInOrder, List.find?_filter, Bool.decide_and, Bool.decide_eq_true]

theorem choice_promoted (h : promoted p s = true) : choice p s = some .port := if_pos h

theorem choice_overdue {before after : List Requester} {r : Requester} (hp : promoted p s = false)
    (ho : modeOrder p.arbiterMode = before ++ r :: after) (hr : waits s r = true ∧ overdue p s r = true)
    (hb : ∀ x ∈ before, ¬ (waits s x = true ∧ overdue p s x = true)) : choice p s = some r := by
  have hfind : (waitingInOrder p s).find? (overdue p s) = some r := by
    rw [find_waitingInOrder, ho, List.find?_append, List.find?_eq_none.mpr fun x hx hand => hb x hx (Bool.and_eq_true_iff.mp hand),
      Option.none_or]
    exact List.find?_cons_of_pos (Bool.and_eq_true_iff.mpr hr)
  unfold choice
  rw [hp, hfind]
  rfl

theorem choice_unpromoted (hp : promoted p s = false)
    (hn : ∀ x ∈ modeOrder p.arbiterMode, ¬ (waits s x = true ∧ overdue p s x = true)) :
    choice p s = (modeOrder p.arbiterMode).find? (waits s) := by
  have hfind : (waitingInOrder p s).find? (overdue p s) = none := by
    rw [find_waitingInOrder]
    exact List.find?_eq_none.mpr fun x hx hand => hn x hx (Bool.and_eq_true_iff.mp hand)
  unfold choice
  rw [hp, hfind]
  exact List.head?_filter

/-- A grant that the choice does not name is not made. -/
theorem grantTo_unnamed {r : Requester} (work : Params → State → State)
    (h : ∀ p, s.station.conf = some p → choice p s ≠ some r) : grantTo r work s = s := by
  obtain ⟨p, hc, -, hr, -⟩ | hs := grantTo_cases r work s
  · exact absurd hr (h p hc)
  · exact hs

theorem promoted_eq {cmd : PortCommand} {arrival : Time} (h : s.report.port = .working (.request cmd arrival)) :
    promoted p s = decide ((p.portPromotion * 1000 : Nat) < timeDiff s.now arrival) := by
  unfold promoted portRequest
  rw [h]

/-- Settles O32, by promotion, by the overdue requesters and by the order of the mode. -/
theorem arbiterChoosesByPromotionBypassAndMode : Obligations.ArbiterChoosesByPromotionBypassAndMode := by
  refine ⟨fun p s => ?choice, fun p cmd arrival s hc hport hage => ?promoted, fun r s h => ?unnamed,
    fun p cmd arrival s hport hage => ?young⟩
  case choice =>
    intro order overdueWaiting
    have horder : modeOrder p.arbiterMode = order := by
      show _ = match p.arbiterMode with | .localFirst => _ | .lineFirst => _
      cases p.arbiterMode <;> rfl
    have hover : ∀ r, waits s r = true ∧ overdue p s r = true ↔ overdueWaiting r :=
      fun r => and_congr_right fun _ => decide_eq_true_iff
    refine ⟨choice_promoted, fun hp before r after ho => ⟨fun hr hb => ?_, fun hw hn hb => ?_⟩, fun hp hw => ?_⟩
    · exact choice_overdue hp (horder.trans ho) ((hover r).mpr hr) fun x hx h => hb x hx ((hover x).mp h)
    · rw [choice_unpromoted hp fun x hx h => hn x (horder ▸ hx) ((hover x).mp h), horder, ho, List.find?_append,
        List.find?_eq_none.mpr fun x hx h => Bool.false_ne_true ((hb x hx).symm.trans h), Option.none_or]
      exact List.find?_cons_of_pos hw
    · have hno : ∀ x ∈ modeOrder p.arbiterMode, ¬ waits s x = true :=
        fun x hx h => Bool.false_ne_true ((hw x (horder ▸ hx)).symm.trans h)
      rw [choice_unpromoted hp fun x hx h => hno x hx h.1]
      exact List.find?_eq_none.mpr hno
  case promoted =>
    have hchoice : choice p s = some .port := choice_promoted ((promoted_eq hport).trans (decide_eq_true hage))
    have hother : ∀ r, r ≠ .port → ∀ q, s.station.conf = some q → choice q s ≠ some r := by
      intro r hr q hq h
      obtain rfl := Option.some.inj (hc.symm.trans hq)
      exact hr (Option.some.inj (h.symm.trans hchoice))
    exact ⟨hchoice, congrArg _ (grantTo_unnamed localWork (hother .loc nofun)),
      congrArg _ (grantTo_unnamed lineWork (hother .line nofun)), congrArg _ (grantTo_unnamed timerWork (hother .timer nofun))⟩
  case unnamed =>
    cases r with
    | loc => exact congrArg _ (grantTo_unnamed localWork h)
    | line => exact congrArg _ (grantTo_unnamed lineWork h)
    | timer => exact congrArg _ (grantTo_unnamed timerWork h)
    | port => exact congrArg _ (grantTo_unnamed portWork h)
  case young => exact (promoted_eq hport).trans (decide_eq_false (not_lt.mpr hage))

/-! ## Bypass counts (O33) -/

/-- A grant that the choice names. -/
theorem grantTo_named {r : Requester} (work : Params → State → State) (hc : s.station.conf = some p)
    (hh : s.station.haltDue = false) (hr : choice p s = some r) :
    grantTo r work s = endGrant s (work p (beginGrant r s)) := by
  unfold grantTo
  rw [hc]
  exact if_pos ⟨hh, hr⟩

theorem endGrant_running {t : State} (h : isRunning t = isRunning s) : endGrant s t = settleCounts t := by
  unfold endGrant
  rw [h]
  cases isRunning s <;> rfl

theorem passedOver_other {g r : Requester} (h : r ≠ g) :
    passedOver s g r = if waits s r then min 15 (bypassOf s.table.bypass r + 1) else 0 := if_neg h

/-- The counts settled after a grant to `g` whose work left the waiting of the others. -/
theorem countIfWaiting_passedOver {t : State} {g r : Requester} (hb : bypassOf t.table.bypass r = passedOver s g r)
    (hw : r ≠ g → waits t r = waits s r) : countIfWaiting t r = passedOver s g r := by
  unfold countIfWaiting
  rw [hb]
  unfold passedOver
  by_cases h : r = g
  · rw [if_pos h]
    split <;> rfl
  · rw [if_neg h, hw h]
    cases waits s r <;> rfl

/-- A timed list without its one entry holds nothing. -/
theorem dueItems_empty (hp : s.table.pending = []) (hs : ∀ y ∈ s.table.settle, y.due = false) (hw : s.table.watch = [])
    (ht : ∀ y ∈ s.table.trap, y.due = false) : dueItems s = [] := by
  have hsettle : s.table.settle.filter (·.due) = [] := List.filter_eq_nil_iff.mpr fun y hy => by rw [hs y hy]; decide
  have htrap : s.table.trap.filter (·.due) = [] := List.filter_eq_nil_iff.mpr fun y hy => by rw [ht y hy]; decide
  unfold dueItems
  rw [hp, hw, hsettle, htrap]
  rfl

theorem armFresh_bypass (p : Params) (i : SlotNo) (s : State) : (armFresh p i s).table.bypass = s.table.bypass := by
  unfold armFresh
  split
  · rfl
  · split
    · rfl
    · split
      · split <;> rfl
      · rfl

/-- A watch that was the only due item leaves TIMER with the count 0, whatever watch is armed in its place. -/
theorem armWatch_timer {i : SlotNo} (h : dueItems (removeWatch i s) = []) : (armWatch p i s).table.bypass.timer = 0 := by
  unfold armWatch
  rw [armFresh_bypass]
  obtain ⟨-, ht⟩ | ⟨hne, -⟩ := settleTimer_cases (removeWatch i s)
  · rw [ht]
  · exact absurd h hne

theorem slotToProcess_own {t : Nat} {i : SlotNo} (h : slotFor t s = some i) : slotToProcess p t s = some (i, s) := by
  unfold slotToProcess
  rw [h]

theorem pendingOf_none {i : SlotNo} (h : ∀ e ∈ s.table.pending, e.slot ≠ i) : pendingOf s i = none :=
  List.find?_eq_none.mpr fun e he hb => h e he (beq_iff_eq.mp hb)

theorem isPast_false {f : FeederRecord} {x : Slot} (h : ∀ l u, x.last = some l → f.instant = some u → isBefore u l.instant = false) :
    isPast f x = false := by
  unfold isPast
  cases hi : f.instant with
  | none => rfl
  | some u =>
    cases hl : x.last with
    | none => rfl
    | some l => exact h l u hl hi

/-- A feeder passing that its slot takes as the feeder record. -/
theorem takeFeederPassing_record {t : Nat} {f : FeederRecord} {i : SlotNo} (hf : hasFlag f.flags .repeated = false)
    (hi : slotFor t s = some i) (hp : ∀ e ∈ s.table.pending, e.slot ≠ i)
    (hl : ∀ l u, (slotOf s i).last = some l → f.instant = some u → isBefore u l.instant = false) :
    takeFeederPassing p t f s = becomeRecord p i f (touchSlot i s) := by
  have hpast : isPast f (slotOf (touchSlot i s) i) = false := by
    unfold touchSlot
    rw [slotOf_setSlot_same]
    exact isPast_false hl
  have hpend : pendingOf (touchSlot i s) i = none := pendingOf_none (s := touchSlot i s) hp
  unfold takeFeederPassing
  rw [hf, slotToProcess_own hi]
  show feederInSlot p i f (touchSlot i s) = _
  unfold feederInSlot
  rw [hpend, hpast]
  rfl

/-- A LINE grant as its work begins: the counts judged and the item out of the intake. -/
def lineBegun (rest : List IntakeItem) (s : State) : State :=
  { beginGrant .line s with line := { s.line with intake := rest } }

theorem exec_lineGrant {x : IntakeItem} {rest : List IntakeItem} (hc : s.station.conf = some p) (hh : s.station.haltDue = false)
    (hr : choice p s = some .line) (hq : s.line.intake = x :: rest) :
    exec .lineGrant s = .next (settleCounts (takeIntake p x (lineBegun rest s))) := by
  have hwork : lineWork p (beginGrant .line s) = takeIntake p x (lineBegun rest s) := by
    unfold lineWork
    rw [show (beginGrant .line s).line.intake = x :: rest from hq]
    rfl
  have hrun : isRunning (takeIntake p x (lineBegun rest s)) = isRunning (lineBegun rest s) :=
    isRunning_of_spares (takeIntake_spares p x (lineBegun rest s))
  refine congrArg _ ((grantTo_named lineWork hc hh hr).trans ?_)
  rw [hwork]
  exact endGrant_running hrun

/-- Settles O33: the SLOT_READ leaves the others waiting as they were, and the feeder passing takes the only due item away. -/
theorem grantRaisesTheCountsOfThosePassedOver : Obligations.GrantRaisesTheCountsOfThosePassedOver := by
  refine ⟨fun p i arrival s hc hh hport hr => ?read,
    fun p x rest instant clock w i e s hc hh hr hq hx hw hi hwatch he hpend hsettle htrap hlast => ?withdrawn⟩
  case read =>
    let t := setPort (.done (.kept ⟨.ok, .slot s.now (slotView s i)⟩)) (beginGrant .port s)
    have hwork : portWork p (beginGrant .port s) = t := by
      have hreq : portRequest (beginGrant .port s) = some (.slotRead i, arrival) := by
        unfold portRequest
        rw [show (beginGrant .port s).report.port = s.report.port from rfl, hport]
      unfold portWork
      rw [hreq]
      rfl
    have hex : exec .portGrant s = .next (settleCounts t) := by
      refine congrArg _ ((grantTo_named portWork hc hh hr).trans ?_)
      rw [hwork]
      exact endGrant_running rfl
    have hcount : ∀ r, bypassOf (settleCounts t).table.bypass r = passedOver s .port r := fun r => by
      rw [bypassOf_settleCounts]
      refine countIfWaiting_passedOver (bypassOf_beginGrant .port r s) fun hr => ?_
      cases r with
      | port => exact absurd rfl hr
      | loc | line | timer => rfl
    refine ⟨_, hex, rfl, rfl, (hcount .port).trans (if_pos rfl), fun r hr => (hcount r).trans (passedOver_other hr), rfl⟩
  case withdrawn =>
    let u := lineBegun rest s
    have htake : takeIntake p x u = becomeRecord p i (recordOf x.tag instant clock w) (touchSlot i u) := by
      unfold takeIntake
      rw [hx]
      refine takeFeederPassing_record hw ?_ ?_ hlast
      · exact (findSlot_congr _ s u rfl).trans hi
      · intro y hy
        rw [show u.table.pending = [] from hpend] at hy
        exact absurd hy List.not_mem_nil
    refine ⟨_, exec_lineGrant hc hh hr hq, ?_⟩
    show countIfWaiting (takeIntake p x u) .timer = 0
    unfold countIfWaiting
    have htimer : bypassOf (takeIntake p x u).table.bypass .timer = 0 := by
      rw [htake]
      refine armWatch_timer (dueItems_empty hpend hsettle ?_ htrap)
      show s.table.watch.filter (fun y => y.slot != i) = []
      rw [hwatch, List.filter_cons_of_neg (by simp [he]), List.filter_nil]
    rw [htimer]
    split <;> rfl

/-! ## Held commands (O34) -/

theorem takeHeld_held {cmd : PortCommand} (hp : s.report.port = .ready) :
    takeHeld none cmd s = { s with report := { s.report with
      port := .working (.request cmd s.now)
      transaction := some { response := ⟨.notReady, .nothing⟩, frame := [1, 0, 0], collects := false, takes := 0 } } } := by
  obtain ⟨r, -, hr, -⟩ | ⟨-, -, h⟩ | ⟨hn, -⟩ := takeHeld_cases none cmd s
  · exact nomatch hr
  · exact h
  · exact absurd hp hn

theorem inState_false {x : StationState} (h : stationState s ≠ x) : inState s x = false := beq_eq_false_iff_ne.mpr h

/-- A command whose own tests all pass. -/
theorem refusedBy_none {cs : List (Bool × ResponseCode)} (h : ∀ c ∈ cs, c.1 = false) : refusedBy cs = none := by
  induction cs with
  | nil => rfl
  | cons c cs ih =>
    obtain ⟨b, r⟩ := c
    have hb : b = false := h _ (.head _)
    rw [hb]
    exact ih fun x hx => h x (.tail _ hx)

/-- A command of a held kind whose own tests all pass, in READY. -/
theorem heldCommand {cs : List (Bool × ResponseCode)} {cmd : PortCommand} (hp : s.report.port = .ready)
    (h : ∀ c ∈ cs, c.1 = false) :
    (Host.Outcome.next (takeHeld (refusedBy cs) cmd s) : Host.Outcome State Fault Refusal) =
      .next { s with report := { s.report with
        port := .working (.request cmd s.now)
        transaction := some { response := ⟨.notReady, .nothing⟩, frame := [1, 0, 0], collects := false, takes := 0 } } } := by
  rw [refusedBy_none h, takeHeld_held hp]

/-- Settles O34, command by command: none of its own tests refuses it. -/
theorem heldCommandsBecomePortRequests : Obligations.HeldCommandsBecomePortRequests := by
  intro s hport held
  have htime : ∀ u : Time, timeValid u.toNat = true := fun u => (timeValid_iff _).mpr u.isLt
  refine ⟨fun i hu hc => ?_, fun first count hu hc hf h1 h16 => ?_, fun t c hs ht ht' hc => ?_, fun hs => ?_,
    fun n hu hc hn hn' => ?_, fun n u hu hc hn hn' => ?_, fun t u hs ht ht' => ?_, fun hs => ?_, fun hs => ?_⟩
  · have hi : ¬ 127 < i.val := by omega
    have hslot : Fin.ofNat 128 i.val = i := Fin.ofNat_val_eq_self i
    refine (heldCommand hport ?_).trans ?_
    · simp [inState_false hu, inState_false hc, hi]
    · rw [hslot]
  · refine heldCommand hport ?_
    have hbad : badSnapshot first count = false := by simp [badSnapshot]; omega
    simp [inState_false hu, inState_false hc, hbad]
  · refine heldCommand hport ?_
    have hvalid := (transponderValid_iff t).mpr ⟨ht, ht'⟩
    have hbad : badRoster t c = false := by simp [badRoster, hvalid, hc]
    obtain hs | hs := hs <;> simp [inState, hs, hbad]
  · refine heldCommand hport ?_
    obtain hs | hs := hs <;> simp [inState, hs]
  · refine heldCommand hport ?_
    simp [inState_false hu, inState_false hc, (numberValid_iff n).mpr ⟨hn, hn'⟩]
  · refine (heldCommand hport ?_).trans ?_
    · simp [inState_false hu, inState_false hc, (numberValid_iff n).mpr ⟨hn, hn'⟩, htime u]
    · rw [BitVec.ofNat_toNat]
      rfl
  · refine (heldCommand hport ?_).trans ?_
    · simp [inState, hs, (transponderValid_iff t).mpr ⟨ht, ht'⟩, htime u]
    · rw [BitVec.ofNat_toNat]
      rfl
  · refine heldCommand hport ?_
    simp [inState, hs]
  · refine heldCommand hport ?_
    simp [inState, hs]

/-! ## The roster (O35) -/

theorem grantRosterPut_own {t c : Nat} {i : SlotNo} (h : slotFor t s = some i) :
    grantRosterPut t c s = if (slotOf s i).rostered then (bare .duplicate, s)
      else (okWith (.slotNumber i), setSlot i (adoptedSlot c (slotOf s i)) s) := by
  unfold grantRosterPut
  rw [h]

theorem grantRosterPut_free {t c : Nat} {i : SlotNo} (h : slotFor t s = none)
    (hf : findSlot (fun x => x.state == .free) s = some i) :
    grantRosterPut t c s = (okWith (.slotNumber i), setSlot i (rosteredSlot t c) s) := by
  unfold grantRosterPut
  rw [h, hf]

theorem grantRosterPut_full {t c : Nat} (h : slotFor t s = none) (hf : findSlot (fun x => x.state == .free) s = none) :
    grantRosterPut t c s = (bare .full, s) := by
  unfold grantRosterPut
  rw [h, hf]

theorem findFree_eq_some {i : SlotNo} (hi : (slotOf s i).state = .free) (hl : ∀ j, j < i → (slotOf s j).state ≠ .free) :
    findSlot (fun x => x.state == .free) s = some i :=
  (findSlot_eq_some _ s i).mpr ⟨beq_iff_eq.mpr hi, fun j hj => beq_eq_false_iff_ne.mpr (hl j hj)⟩

theorem findFree_eq_none (h : ∀ i, (slotOf s i).state ≠ .free) : findSlot (fun x => x.state == .free) s = none :=
  (findSlot_eq_none _ s).mpr fun i => beq_eq_false_iff_ne.mpr (h i)

theorem slots_toList (s : State) : s.table.slots.toList = (List.finRange 128).map (slotOf s) := by
  refine List.ext_getElem (by simp) fun n h1 h2 => ?_
  simp [slotOf]

theorem usedSlots_eq (s : State) : usedSlots s = (List.finRange 128).countP (fun i => (slotOf s i).state != .free) := by
  unfold usedSlots
  rw [slots_toList, List.countP_map]
  rfl

theorem releaseEntry_all (e : LogEntry) :
    releaseEntry (fun _ => true) e = { e with released := e.released || e.slot.isSome } := by
  unfold releaseEntry
  cases e.slot <;> rfl

/-- Settles O35, by the slot that the transponder has or takes; ROSTER_CLEAR from the emptied table. -/
theorem rosterGrantsLoadAndClearSlots : Obligations.RosterGrantsLoadAndClearSlots := by
  refine ⟨fun transponder competitor s => ⟨fun i hi => ⟨fun hr => ?_, fun hr => ?_⟩, fun hn => ⟨fun i hf hl => ?_, fun hf => ?_⟩⟩,
    fun s => ?clear⟩
  · exact (grantRosterPut_own hi).trans (if_pos hr)
  · exact ⟨_, (grantRosterPut_own hi).trans (if_neg (by rw [hr]; decide)), rfl, fun j hj => slotOf_setSlot_other _ _ _ _ hj,
      slotOf_setSlot_same _ _ _⟩
  · exact ⟨_, grantRosterPut_free hn (findFree_eq_some hf hl), rfl, fun j hj => slotOf_setSlot_other _ _ _ _ hj,
      slotOf_setSlot_same _ _ _⟩
  · exact grantRosterPut_full hn (findFree_eq_none hf)
  case clear =>
    refine ⟨clearRoster s, ?_, rfl, clearRoster_slot s, rfl, fun n => ?_⟩
    · unfold grantRosterClear
      rw [usedSlots_eq]
      rfl
    · refine (logEntry_releaseSlots (fun _ => true) s n).trans ?_
      cases logEntry s n with
      | none => rfl
      | some e => exact congrArg some (releaseEntry_all e)

/-! ## Reclaim (O36) -/

/-- How long a slot has been idle. -/
def idleAge (s : State) (i : SlotNo) : Int := timeDiff s.now ((slotOf s i).lastActivity.getD 0)

/-- Of two times no later than now, the earlier is the one of greater age. -/
theorem isBefore_of_ages {now a b : Time} (ha : 0 ≤ timeDiff now a) (hb : 0 ≤ timeDiff now b) :
    isBefore b a = true ↔ timeDiff now a < timeDiff now b := by
  unfold isBefore timeDiff at *
  have ha' := a.isLt
  have hb' := b.isLt
  have hn := now.isLt
  simp only [BitVec.toInt_eq_toNat_cond, BitVec.toNat_sub, decide_eq_true_eq] at *
  omega

theorem reclaimable_iff {i : SlotNo} : reclaimable s i = true ↔
    (slotOf s i).state = .active ∧ (slotOf s i).rostered = false ∧
      (∃ a, (slotOf s i).lastActivity = some a ∧ 600000000 ≤ timeDiff s.now a) ∧ (∀ e ∈ s.table.pending, e.slot ≠ i) ∧
      (∀ e ∈ s.table.settle, e.slot ≠ i) ∧ (∀ e ∈ s.table.watch, e.slot ≠ i) ∧ ∀ e ∈ s.table.trap, e.slot ≠ i := by
  unfold reclaimable pendingOf settleOf watchOf trapOf
  simp only [Bool.and_eq_true, beq_iff_eq, Bool.not_eq_true', Option.isNone_iff_eq_none, List.find?_eq_none, and_assoc]
  refine and_congr_right fun _ => and_congr_right fun _ => and_congr ?_ Iff.rfl
  cases (slotOf s i).lastActivity <;> simp [Config.reclaimAge]

/-- The one chosen of a rising list of idle slots: none is idle longer, and of those as long idle it is the lowest. -/
theorem longestIdle_spec {l : List SlotNo} (hl : l.Pairwise (· < ·))
    (hidle : ∀ i ∈ l, ∃ a, (slotOf s i).lastActivity = some a ∧ 0 ≤ timeDiff s.now a) :
    ∀ i, longestIdle s l = some i → ∀ j ∈ l, idleAge s j ≤ idleAge s i ∧ (idleAge s j = idleAge s i → i ≤ j) := by
  induction l with
  | nil => exact fun i hi => nomatch hi
  | cons k l ih =>
    obtain ⟨hk, hrise⟩ := List.pairwise_cons.mp hl
    have ih := ih hrise fun i hi => hidle i (.tail _ hi)
    intro i hi j hj
    unfold longestIdle at hi
    cases hrest : longestIdle s l with
    | none =>
      rw [hrest] at hi
      obtain rfl := Option.some.inj hi
      obtain rfl | hj := List.mem_cons.mp hj
      · exact ⟨le_refl _, fun _ => le_refl _⟩
      · cases l with
        | nil => exact absurd hj List.not_mem_nil
        | cons m l =>
          unfold longestIdle at hrest
          split at hrest
          · exact nomatch hrest
          · split at hrest <;> exact nomatch hrest
    | some m =>
      have hm := ih m hrest
      have hmem : m ∈ l := longestIdle_mem s l m hrest
      obtain ⟨a, ha, ha0⟩ := hidle k (.head _)
      obtain ⟨b, hb, hb0⟩ := hidle m (.tail _ hmem)
      have hlonger : idleLonger s m k = true ↔ idleAge s k < idleAge s m := by
        unfold idleLonger idleAge
        rw [ha, hb]
        exact isBefore_of_ages ha0 hb0
      rw [hrest] at hi
      by_cases hlong : idleLonger s m k = true
      · obtain rfl : m = i := Option.some.inj ((if_pos hlong).symm.trans hi)
        have hlt := hlonger.mp hlong
        obtain rfl | hj := List.mem_cons.mp hj
        · exact ⟨le_of_lt hlt, fun h => absurd h (ne_of_lt hlt)⟩
        · exact hm j hj
      · obtain rfl : k = i := Option.some.inj ((if_neg hlong).symm.trans hi)
        have hle : idleAge s m ≤ idleAge s k := not_lt.mp fun h => hlong (hlonger.mpr h)
        obtain rfl | hj := List.mem_cons.mp hj
        · exact ⟨le_refl _, fun _ => le_refl _⟩
        · exact ⟨le_trans (hm j hj).1 hle, fun _ => le_of_lt (hk j hj)⟩

theorem idleAge_eq {i : SlotNo} {a : Time} (h : (slotOf s i).lastActivity = some a) : idleAge s i = timeDiff s.now a := by
  unfold idleAge
  rw [h]
  rfl

/-- Settles O36: the slot chosen is reclaimable, and its idle age is the greatest. -/
theorem reclaimTakesTheLongestIdleSlot : Obligations.ReclaimTakesTheLongestIdleSlot := by
  intro transponder i s t hfree hgive
  obtain ⟨hf, -⟩ | ⟨-, hr, ht⟩ := giveSlot_cases transponder s t i hgive
  · exact absurd (beq_iff_eq.mp ((findSlot_eq_some _ s i).mp hf).1) (hfree i)
  · obtain ⟨hactive, hroster, ⟨a, ha, hage⟩, hp, hs, hw, htr⟩ := reclaimable_iff.mp (reclaimSlot_reclaimable s i hr)
    have hrise : ((List.finRange 128).filter (reclaimable s)).Pairwise (· < ·) := (List.pairwise_lt_finRange 128).filter _
    have hidle : ∀ j ∈ (List.finRange 128).filter (reclaimable s), ∃ b, (slotOf s j).lastActivity = some b ∧ 0 ≤ timeDiff s.now b := by
      intro j hj
      obtain ⟨-, -, ⟨b, hb, hb'⟩, -⟩ := reclaimable_iff.mp (List.mem_filter.mp hj).2
      exact ⟨b, hb, le_trans (by decide) hb'⟩
    have hlongest := longestIdle_spec hrise hidle i hr
    subst ht
    refine ⟨hactive, hroster, ⟨a, ha, hage, fun j b hj hjr hb hbage hjp hjs hjw hjt => ?_⟩, hp, hs, hw, htr, rfl, fun n => ?_,
      fun j hj => slotOf_setSlot_other _ _ _ _ hj, slotOf_setSlot_same _ _ _⟩
    · have hmem : j ∈ (List.finRange 128).filter (reclaimable s) := List.mem_filter.mpr
        ⟨List.mem_finRange j, reclaimable_iff.mpr ⟨hj, hjr, ⟨b, hb, hbage⟩, hjp, hjs, hjw, hjt⟩⟩
      obtain ⟨hle, htie⟩ := hlongest j hmem
      rw [idleAge_eq ha, idleAge_eq hb] at hle htie
      refine ⟨Bool.eq_false_iff.mpr fun h => ?_, fun h => htie (by rw [h])⟩
      exact absurd ((isBefore_of_ages (le_trans (by decide) hage) (le_trans (by decide) hbage)).mp h) (not_lt.mpr hle)
    · refine (logEntry_releaseSlots (fun j => j == i) s n).trans ?_
      have hany : ∀ e : LogEntry, e.slot.any (fun j => j == i) = decide (e.slot = some i) := fun e => by
        cases e.slot <;> simp [Option.any, beq_eq_decide]
      unfold releaseEntry
      simp only [hany]

end Sys2Proof.Machine
end


section
/-! PROOFS. Chapter 9: the report FIFO, REPORT_READ, polls and delivery, and the reads of the log and of the status (R152 to R157, R166,
R171). -/

namespace Sys2Proof.Machine

/-! ## Records offered (O51) -/

theorem wakeReader_eq (x : PortState) : wakeReader x = match x with
    | .working (.report count _) => .done (.atPoll count)
    | y => y := rfl

theorem captureOverrun_eq (b : RecordBody) (now : Time) (o : Option OverrunCapture) :
    captureOverrun { issued := now, body := b } o = match o with
      | none => { kind := recordKind b, number := recordNumber b, issued := now, moreLost := false }
      | some c => { c with moreLost := true } := by
  cases o <;> rfl

theorem attnHolds_of_overrun {s : State} {c : OverrunCapture} (h : s.report.overrun = some c) : attnHolds s = true := by
  unfold attnHolds
  rw [h]
  simp

theorem attnHolds_of_age {p : Params} {r : Record} {rest : List Record} {s : State} (hc : s.station.conf = some p)
    (hf : s.report.fifo = r :: rest) (ha : (p.attentionAge * 1000 : Nat) ≤ timeDiff s.now r.issued) : attnHolds s = true := by
  have hcalls : fifoCalls p s = true := by
    unfold fifoCalls
    rw [hf]
    exact Bool.or_eq_true_iff.mpr (.inr (decide_eq_true ha))
  unfold attnHolds
  rw [hc]
  exact Bool.or_eq_true_iff.mpr (.inr hcalls)

/-- Settles O51, by the room of the FIFO. -/
theorem recordsEnterTheFifoOrLockTheCapture : Obligations.RecordsEnterTheFifoOrLockTheCapture := by
  intro b s
  refine ⟨fun h => ⟨_, (offerRecord_room b s h).trans rfl⟩, fun h => ?full, ⟨_, rfl⟩, fun p r rest hc hf ha => ?age⟩
  case full =>
    let t : State := { s with report := { s.report with
      overrun := some (captureOverrun { issued := s.now, body := b } s.report.overrun) } }
    have hattn : attnHolds t = true := attnHolds_of_overrun (s := t) rfl
    have hoffer : offerRecord b s = { t with report := { t.report with attn := attnHolds t } } := offerRecord_full b s h
    rw [hoffer, hattn]
    exact congrArg (fun c => { s with report := { s.report with overrun := some c, attn := true } })
      (captureOverrun_eq b s.now s.report.overrun)
  case age =>
    show Host.Outcome.next { s with report := { s.report with attn := attnHolds s } } = _
    rw [attnHolds_of_age hc hf ha]

/-! ## REPORT_READ (O52) -/

theorem exec_reportRead_ready {count : Nat} {s : State} (h : s.report.port = .ready) :
    exec (.reportRead count) s = if readCountValid count then .next (readRecords count s)
      else .next (respond (bare .badArgument) s) := by
  show execReportRead count s = _
  unfold execReportRead
  rw [h]

theorem exec_reportRead_busy {count : Nat} {s : State} (h : s.report.port ≠ .ready) :
    exec (.reportRead count) s = .next (respond (bare .busy) s) := by
  show execReportRead count s = _
  unfold execReportRead
  cases hp : s.report.port with
  | ready => exact absurd hp h
  | working x => rfl
  | done m => rfl

theorem readCountValid_iff (count : Nat) : readCountValid count = true ↔ 1 ≤ count ∧ count ≤ 8 := by simp [readCountValid]

theorem readRecords_waiting {count : Nat} {s : State} (h : s.report.fifo ≠ []) :
    readRecords count s = answer (recordsResponse .ok (takenBy count s) s) false (takenBy count s) s :=
  if_neg fun he => h (List.isEmpty_iff.mp he)

theorem readRecords_empty {count : Nat} {s : State} (h : s.report.fifo = []) (hw : readTimeoutIfWaiting s = none) :
    readRecords count s = respond (recordsResponse .empty 0 s) s := by
  unfold readRecords
  rw [h, hw]
  rfl

theorem readRecords_held {count ms : Nat} {s : State} (h : s.report.fifo = []) (hw : readTimeoutIfWaiting s = some ms) :
    readRecords count s = respond (bare .notReady) (setPort (.working (.report count (later s.now (ms * 1000)))) s) := by
  unfold readRecords
  rw [h, hw]
  rfl

/-- No read waits without a configuration or in IMMEDIATE mode. -/
theorem readTimeoutIfWaiting_none {s : State} (h : ∀ p, s.station.conf = some p → p.readMode = .immediate) :
    readTimeoutIfWaiting s = none := by
  unfold readTimeoutIfWaiting
  cases hc : s.station.conf with
  | none => rfl
  | some p =>
    show (match p.readMode with | .wait => some p.readTimeout | .immediate => none) = none
    rw [h p hc]

theorem readTimeoutIfWaiting_some {p : Params} {s : State} (hc : s.station.conf = some p) (h : p.readMode = .wait) :
    readTimeoutIfWaiting s = some p.readTimeout := by
  unfold readTimeoutIfWaiting
  rw [hc]
  show (match p.readMode with | .wait => some p.readTimeout | .immediate => none) = _
  rw [h]

/-- The oldest records up to a count are the first of them that there are. -/
theorem take_takenBy (count : Nat) (s : State) : s.report.fifo.take (takenBy count s) = s.report.fifo.take count := by
  unfold takenBy
  exact List.take_eq_take_min.symm

/-- Settles O52, by the state of the port, the count and the FIFO. -/
theorem reportReadTakesTheOldestRecords : Obligations.ReportReadTakesTheOldestRecords := by
  intro count s
  refine ⟨fun h => ⟨_, exec_reportRead_busy h, rfl⟩, fun h hc => ?bad, fun h1 h8 => ?valid⟩
  case bad =>
    refine ⟨_, (exec_reportRead_ready h).trans (if_neg fun hv => ?_), rfl⟩
    have hcount := (readCountValid_iff count).mp hv
    omega
  case valid =>
    have hv := (readCountValid_iff count).mpr ⟨h1, h8⟩
    have hex : s.report.port = .ready → exec (.reportRead count) s = .next (readRecords count s) :=
      fun h => (exec_reportRead_ready h).trans (if_pos hv)
    refine ⟨fun hp hf => ?_, fun hp hf hm => ?_, fun p hp hf hc hm => ?_, fun due hp hd => ?_⟩
    · intro r
      have hr : recordsResponse .ok (takenBy count s) s = r := by
        unfold recordsResponse
        rw [take_takenBy]
        rfl
      rw [hex hp, readRecords_waiting hf, hr]
      rfl
    · refine ⟨_, (hex hp).trans (congrArg _ (readRecords_empty hf (readTimeoutIfWaiting_none hm))), ?_⟩
      unfold recordsResponse
      rw [hf]
      rfl
    · rw [hex hp, readRecords_held hf (readTimeoutIfWaiting_some hc hm)]
      rfl
    · show execReadTimerExpiry s = _
      unfold execReadTimerExpiry
      rw [hp]
      exact if_pos hd

/-! ## Polls and delivery (O53) -/

theorem exec_poll (s : State) : exec .poll s = execPoll s := rfl

theorem argLength_above {code : Nat} (h : 21 ≤ code) : argLength code = none := by
  unfold argLength requestWidths
  split <;> first | omega | rfl

/-- Settles O53, from what each row does to port and transaction. -/
theorem pollsCollectAndDeliveryTakes : Obligations.PollsCollectAndDeliveryTakes := by
  intro s
  refine ⟨fun h => ⟨respond (bare .refusedState) s, ?_, rfl⟩, fun x h => ⟨respond (bare .notReady) s, ?_, rfl⟩, fun r h => ?_,
    fun count h => ?_, fun x hx hd => ⟨(deliver x s).report.attn, ?_⟩, rfl, fun x n hx => ?_, fun n hx => ?_, fun code length h => ⟨respond (bare .unknownCommand) s, ?_, rfl⟩⟩
  · rw [exec_poll, execPoll, h]
  · rw [exec_poll, execPoll, h]
  · rw [exec_poll, execPoll, h]
    rfl
  · rw [exec_poll, execPoll, h]
    rfl
  · show execResponseDelivered s = _
    unfold execResponseDelivered
    rw [hx]
    show (if x.delivered then Host.Outcome.next s else .next (deliver x s)) = _
    rw [hd]
    exact congrArg Host.Outcome.next (deliver_frame x s)
  · rw [sentAfterRequest_eq]
    unfold unsentBytes
    rw [hx]
    rfl
  · rw [sentAfterRequest_eq]
    unfold unsentBytes
    rw [hx]
    exact congrArg (· ++ List.replicate n filler) List.take_nil
  · refine if_neg fun hl => ?_
    obtain hc | hc := h
    · exact nomatch (argLength_above hc).symm.trans hl
    · exact hc hl

/-! ## LOG_READ and STATUS_READ (O54) -/

theorem badLogRead_iff (first count : Nat) :
    badLogRead first count = true ↔ first = 0 ∨ count = 0 ∨ 32 < count ∨ 4294967296 < first + count := by
  have hvalid := numberValid_iff first
  unfold badLogRead
  simp only [Bool.or_eq_true, Bool.not_eq_true', ← Bool.not_eq_true, hvalid, decide_eq_true_eq,
    show Config.lastNumber = 4294967295 from rfl]
  omega

/-- The item that LOG_READ gives for a number. -/
theorem logItemOf_eq (s : State) (n : Nat) : logItemOf s n = match logEntry s n, latestDrawn s.log with
    | some e, _ => .present e
    | none, none => .notYet n
    | none, some k => if n + 2048 ≤ k then .gone n else .notYet n := by
  unfold logItemOf findInLog isGone
  cases logEntry s n with
  | some e => rfl
  | none =>
    cases latestDrawn s.log with
    | none => rfl
    | some k =>
      show (match (if decide (n + 2048 ≤ k) then LogFound.gone else .notYet) with
        | .entry e => LogItem.present e | .gone => .gone n | .notYet => .notYet n) = if n + 2048 ≤ k then .gone n else .notYet n
      by_cases h : n + 2048 ≤ k
      · rw [if_pos h, if_pos (decide_eq_true h)]
      · rw [if_neg h, if_neg (by simpa using h)]

theorem countState_eq (x : SlotState) (s : State) :
    countState x s = (List.finRange 128).countP fun i => decide ((slotOf s i).state = x) := by
  unfold countState
  rw [slots_toList, List.countP_map]
  rfl

theorem portWaiting_iff (s : State) :
    waits s .port = true ↔ ∃ cmd arrival, s.report.port = .working (.request cmd arrival) := by
  show (portRequest s).isSome = true ↔ _
  unfold portRequest
  split
  · rename_i cmd arrival h
    exact ⟨fun _ => ⟨cmd, arrival, h⟩, fun _ => rfl⟩
  · rename_i h
    exact ⟨nofun, fun ⟨cmd, arrival, hp⟩ => absurd hp (h cmd arrival)⟩

theorem not_isEmpty_iff {α : Type} (l : List α) : (!l.isEmpty) = true ↔ l ≠ [] := by cases l <;> simp

/-- Settles O54: each value of the view is read from the state it is stated of. -/
theorem logAndStatusReadsShowTheStation : Obligations.LogAndStatusReadsShowTheStation := by
  intro s
  refine ⟨fun first count h1 hc h32 hl => ?log, fun first count h => ?bad, ⟨statusView s, rfl, ?view⟩⟩
  case log =>
    refine ⟨_, rfl, ?_⟩
    have hbad : ¬ badLogRead first count = true := fun h => by
      have := (badLogRead_iff first count).mp h
      omega
    unfold logAnswer
    rw [if_neg hbad]
    simp only [logItemOf_eq]
    rfl
  case bad =>
    refine ⟨_, rfl, ?_⟩
    unfold logAnswer
    rw [if_pos ((badLogRead_iff first count).mpr h)]
    rfl
  case view =>
    refine ⟨rfl, rfl, rfl, rfl, rfl, rfl, fun ch => ?_, rfl, rfl, rfl, rfl, rfl, ?_, rfl, rfl, countState_eq .free s,
      countState_eq .rostered s, countState_eq .active s, ?_, rfl, rfl, not_isEmpty_iff _, not_isEmpty_iff _, not_isEmpty_iff _,
      portWaiting_iff s, rfl, rfl, rfl, rfl, rfl, rfl, rfl, rfl⟩
    · cases ch <;> rfl
    · intro kind
      have hcode : ∀ n : Notice, headKindCode n.body = kind n := fun n => by
        show _ = match n.body with | .passing .. => 1 | .revise .. => 2 | .time => 3 | .status _ => 4
        cases n.body <;> rfl
      have hkind : ∀ n : Notice, ((noticeKindCode n.body == 2) = (kind n == 1)) ∧ ((noticeKindCode n.body == 3) = (kind n == 2)) ∧
          ((noticeKindCode n.body == 1) = (kind n == 3)) ∧ ((noticeKindCode n.body == 4) = (kind n == 4)) := fun n => by
        rw [← hcode]
        cases n.body <;> exact ⟨rfl, rfl, rfl, rfl⟩
      have hhead : (statusView s).head = (headNotice s.line.queue).map fun n => (kind n, n.collisions) := by
        simp only [← hcode]
        rfl
      refine ⟨List.countP_congr fun n _ => by rw [(hkind n).1], List.countP_congr fun n _ => by rw [(hkind n).2.1],
        List.countP_congr fun n _ => by rw [(hkind n).2.2.1], List.countP_congr fun n _ => by rw [(hkind n).2.2.2],
        fun hq => ?_, fun n hn => ?_, fun n rest hq hw => ?_⟩
      · rw [hhead, hq]
        rfl
      · rw [hhead, headNotice, hn]
        rfl
      · have hnone : s.line.queue.find? (·.inTransmission) = none :=
          List.find?_eq_none.mpr fun m hm => by rw [hw m hm]; decide
        rw [hhead, headNotice, hnone, hq]
        rfl
    · show s.table.slots.toList.countP (·.rostered) = _
      rw [slots_toList, List.countP_map]
      rfl

end Sys2Proof.Machine
end


section
/-! PROOFS. Chapter 10: the start of CLEARING and the end of a session (R37, R54, R90, R108, R131, R158, R159, R163 to R165). -/

namespace Sys2Proof.Machine

variable {p : Params} {s t : State}

/-! ## START_SESSION (O58) -/

theorem startClearing_eq (s : State) : startClearing s = judgeAttn (settleLine
    { s with
      station := { s.station with mode := .clearing, clearingDue := some (later s.now 2000) }
      gather := clearedGather (rosterIds (mapSlots sessionSlot s.table.slots)) s.gather
      line := clearedLine s.line
      table := sessionTable s.table
      log := .initial
      report := { s.report with fifo := [], overrun := none } }) := rfl

/-- A session slot holds a transponder where it is rostered. -/
theorem sessionSlot_id (x : Slot) :
    (if (sessionSlot x).state = .free then none else (sessionSlot x).transponder) = if x.rostered then x.transponder else none := by
  unfold sessionSlot
  cases x.rostered <;> rfl

theorem slotOf_eq_toList (s : State) (x : Slot) : x ∈ s.table.slots.toList ↔ ∃ i, slotOf s i = x := by
  rw [slots_toList]
  simp

/-- The admission filter of a session: the transponders of the rostered slots. -/
theorem mem_rosterIds_session (s : State) (x : Nat) :
    x ∈ rosterIds (mapSlots sessionSlot s.table.slots) ↔ ∃ i, (slotOf s i).rostered = true ∧ (slotOf s i).transponder = some x := by
  have hlist : (mapSlots sessionSlot s.table.slots).toList = s.table.slots.toList.map sessionSlot := by
    simp [mapSlots, Vector.toList]
  unfold rosterIds
  rw [hlist, List.mem_filterMap]
  simp only [List.mem_map, slotOf_eq_toList]
  constructor
  · rintro ⟨-, ⟨-, ⟨i, rfl⟩, rfl⟩, h⟩
    rw [sessionSlot_id] at h
    cases hr : (slotOf s i).rostered with
    | true => exact ⟨i, hr, by rwa [hr, if_pos rfl] at h⟩
    | false => rw [hr] at h; exact nomatch h
  · rintro ⟨i, hr, ht⟩
    refine ⟨_, ⟨_, ⟨i, rfl⟩, rfl⟩, ?_⟩
    rw [sessionSlot_id, hr, if_pos rfl, ht]

theorem clearedNotice_sent {n m : Notice} (h : clearedNotice n = some m) (ht : isTimed m = false) :
    m.inTransmission = true ∧ m.followOn = none ∧ m.leftOver = true := by
  have htn := (clearedNotice_some h).2.2.1.symm.trans ht
  unfold clearedNotice at h
  rw [htn] at h
  cases hs : n.inTransmission with
  | true =>
    rw [hs] at h
    obtain rfl := Option.some.inj h
    exact ⟨rfl, rfl, rfl⟩
  | false =>
    rw [hs] at h
    exact nomatch h

/-- Settles O58: the cleared blocks one by one, with the line settled behind them. -/
theorem startSessionClearsTheSession : Obligations.StartSessionClearsTheSession := by
  intro s
  refine ⟨⟨startClearing s, rfl, ?_⟩, fun p d hc hm hd hr => ?ends⟩
  case ends =>
    have hin : inState s .clearing = true := beq_iff_eq.mpr ((stationState_clearing hc).mpr hm)
    refine if_pos ?_
    rw [hin, hd]
    exact hr
  let u : State := { s with
    station := { s.station with mode := .clearing, clearingDue := some (later s.now 2000) }
    gather := clearedGather (rosterIds (mapSlots sessionSlot s.table.slots)) s.gather
    line := clearedLine s.line
    table := sessionTable s.table
    log := .initial
    report := { s.report with fifo := [], overrun := none } }
  have hstart : startClearing s = judgeAttn (settleLine u) := rfl
  obtain ⟨hframe, hqueue⟩ := settleLine_frame u
  have hline : (startClearing s).line = (settleLine u).line := rfl
  have hrest : startClearing s = judgeAttn { u with line := (settleLine u).line } := hstart.trans (congrArg judgeAttn hframe)
  have hq : (startClearing s).line.queue = s.line.queue.filterMap clearedNotice := hqueue
  refine ⟨?_, ?_, fun i => startClearing_slot s i, ?_, ?_, fun x => ?_, settleLine_intake u, ?_, ?_, fun n hn ht => ?_, ?_, ?_⟩
  · rw [hrest]
    rfl
  · rw [hrest]
    rfl
  · rw [hrest]
    rfl
  · rw [hrest]
    rfl
  · rw [hrest]
    exact mem_rosterIds_session s x
  · obtain ⟨-, -, h⟩ | ⟨-, -, h⟩ | ⟨-, -, h⟩ := settleLine_cases u <;> rw [hline, h] <;> rfl
  · rw [hq]
    exact (filterMap_clearedNotice s.line.queue).2.2.1
  · rw [hq] at hn
    obtain ⟨m, -, hm⟩ := List.mem_filterMap.mp hn
    exact clearedNotice_sent hm ht
  · rw [hrest]
    rfl
  · rw [hrest]
    have hattn : ∀ v : State, attnHolds v = (v.station.fault.isSome || attnHolds v) := fun v => by
      unfold attnHolds
      cases v.station.fault.isSome <;> rfl
    exact congrArg (fun b => { s.report with fifo := [], overrun := none, attn := b })
      (hattn { u with line := (settleLine u).line })

/-! ## HALT (O59) -/

/-- A report port that keeps what it holds, but for a REPORT_READ that a record ends. -/
def PortKept (x y : PortState) : Prop := (∀ count due, x ≠ .working (.report count due)) → y = x

/-- What the work of a HALT leaves as it is, outside RUNNING. -/
structure HaltKept (s t : State) : Prop where
  pending : t.pending = s.pending
  now : t.now = s.now
  channels : t.channels = s.channels
  clock : t.clock = s.clock
  line : t.line = s.line
  conf : t.station.conf = s.station.conf
  mode : t.station.mode = s.station.mode
  halt : isRunning s = false → t.station.haltDue = s.station.haltDue
  bypass : t.table.bypass = s.table.bypass
  port : PortKept s.report.port t.report.port
  transaction : t.report.transaction = s.report.transaction

theorem HaltKept.running (h : HaltKept s t) : isRunning t = isRunning s := isRunning_congr h.conf h.mode

theorem HaltKept.refl (s : State) : HaltKept s s := ⟨rfl, rfl, rfl, rfl, rfl, rfl, rfl, fun _ => rfl, rfl, fun _ => rfl, rfl⟩

theorem HaltKept.trans {u : State} (h : HaltKept s t) (k : HaltKept t u) : HaltKept s u where
  pending := k.pending.trans h.pending
  now := k.now.trans h.now
  channels := k.channels.trans h.channels
  clock := k.clock.trans h.clock
  line := k.line.trans h.line
  conf := k.conf.trans h.conf
  mode := k.mode.trans h.mode
  halt hr := (k.halt (h.running.trans hr)).trans (h.halt hr)
  bypass := k.bypass.trans h.bypass
  port hp := (k.port (by rw [h.port hp]; exact hp)).trans (h.port hp)
  transaction := k.transaction.trans h.transaction

/-- A change of gatherer, table or log alone keeps the counts where the table's are kept. -/
theorem haltKept_of (h : t = { s with gather := t.gather, table := t.table, log := t.log }) (hb : t.table.bypass = s.table.bypass) :
    HaltKept s t := by
  rw [h]
  exact ⟨rfl, rfl, rfl, rfl, rfl, rfl, rfl, fun _ => rfl, hb, fun _ => rfl, rfl⟩

theorem wakeReader_kept (x : PortState) : PortKept x (wakeReader x) := by
  intro h
  unfold wakeReader
  split
  · rename_i count due
    exact absurd rfl (h count due)
  · rfl

theorem offerRecord_haltKept (b : RecordBody) (s : State) : HaltKept s (offerRecord b s) := by
  obtain hroom | hfull := Nat.lt_or_ge s.report.fifo.length 128
  · rw [offerRecord_room b s hroom]
    exact ⟨rfl, rfl, rfl, rfl, rfl, rfl, rfl, fun _ => rfl, rfl, wakeReader_kept _, rfl⟩
  · rw [offerRecord_full b s hfull]
    exact ⟨rfl, rfl, rfl, rfl, rfl, rfl, rfl, fun _ => rfl, rfl, fun _ => rfl, rfl⟩

theorem drawNumber_haltKept (s : State) : HaltKept s (drawNumber s).2 := by
  obtain ⟨-, h⟩ | ⟨n, -, -, h⟩ | ⟨n, -, -, h⟩ := drawNumber_cases s <;> rw [h]
  · exact .refl s
  · exact haltKept_of rfl rfl
  · dsimp only
    rw [exhaust_eq]
    exact ⟨rfl, rfl, rfl, rfl, rfl, rfl, rfl, fun hr => if_neg (Bool.eq_false_iff.mp hr), rfl, fun _ => rfl, rfl⟩

theorem acceptClosing_haltKept (p : Params) (s : State) : HaltKept s (acceptClosing p s) := by
  have h := acceptClosing_frame p s
  exact haltKept_of (by rw [h]) (by rw [h])

theorem closePass_haltKept (p : Params) (c : CloseCause) (k : PassKey) (s : State) : HaltKept s (closePass p c k s) := by
  have hclose : ∀ n u, HaltKept u (becomeClosing p c k n u) := fun n u =>
    HaltKept.trans (t := { u with gather := { u.gather with
      entries := updateLive k (closedEntry p c n u.gather.closeCount) u.gather.entries
      closeCount := u.gather.closeCount + 1 } }) (haltKept_of rfl rfl) (acceptClosing_haltKept p _)
  have hdraw := drawNumber_haltKept s
  unfold closePass
  split
  · split
    · exact haltKept_of rfl rfl
    · exact hclose none s
  · split
    · rename_i t ht
      rw [ht] at hdraw
      exact hdraw.trans (haltKept_of rfl rfl)
    · rename_i n t ht
      rw [ht] at hdraw
      exact hdraw.trans (hclose (some n) t)

theorem foldl_haltKept {α : Type} {f : State → α → State} (h : ∀ u e, HaltKept u (f u e)) (l : List α) (s : State) :
    HaltKept s (l.foldl f s) := by
  induction l generalizing s with
  | nil => exact .refl s
  | cons e l ih => exact (h s e).trans (ih (f s e))

theorem haltGatherer_haltKept (p : Params) (s : State) : HaltKept s (haltGatherer p s) :=
  (foldl_haltKept (fun u k => closePass_haltKept p .interrupted k u) _ s).trans (haltKept_of rfl rfl)

theorem issueSector_haltKept (p : Params) (r : SectorRec) (s : State) : HaltKept s (issueSector p r s) :=
  HaltKept.trans (t := putSector p r s) (haltKept_of rfl rfl) (offerRecord_haltKept (.sector r) (putSector p r s))

theorem haltPending_haltKept (p : Params) (s : State) : HaltKept s (haltPending p s) :=
  (foldl_haltKept (fun u e => issueSector_haltKept p (pendingEndRec u e .halted) u) _ s).trans (haltKept_of rfl rfl)

theorem haltSettle_haltKept (p : Params) (s : State) : HaltKept s (haltSettle p s) :=
  (foldl_haltKept (fun u e => issueSector_haltKept p (earlyRec p u e) u) _ s).trans (haltKept_of rfl rfl)

/-- The session ended but for the watches, the intake and the end of HALTING. -/
def haltedRecords (p : Params) (s : State) : State :=
  haltSettle p (haltPending p (dropTraps (haltGatherer p (enterHalting s))))

theorem haltedRecords_haltKept (p : Params) (s : State) : HaltKept (enterHalting s) (haltedRecords p s) :=
  (((haltGatherer_haltKept p _).trans (haltKept_of (t := dropTraps (haltGatherer p (enterHalting s))) rfl rfl)).trans
    (haltPending_haltKept p _)).trans (haltSettle_haltKept p _)

/-- What HALT leaves in the open-pass table are closings of the timing group without parking mark. -/
theorem haltedRecords_entries (p : Params) (s : State) :
    ∀ e ∈ (haltedRecords p s).gather.entries, e.state = .closing ∧ e.key.group = .timing ∧ e.parkMark = false := by
  have hgather : (haltedRecords p s).gather = (haltGatherer p (enterHalting s)).gather :=
    (haltSettle_spares p _).gather.trans (haltPending_spares p _).gather
  intro e he
  rw [hgather] at he
  obtain ⟨x, hx, rfl⟩ := List.mem_map.mp he
  obtain ⟨-, hsel⟩ := List.mem_filter.mp hx
  obtain ⟨hc, hg⟩ := Bool.and_eq_true_iff.mp hsel
  exact ⟨beq_iff_eq.mp hc, beq_iff_eq.mp hg, rfl⟩

/-- Closings alone are all live only where there are none. -/
theorem all_isLive_closings {l : List Entry} (h : ∀ e ∈ l, e.state = .closing) : l.all isLive = true ↔ l = [] := by
  cases l with
  | nil => simp
  | cons e l => simp [isLive, h e (.head _)]

theorem finishHalting_mode {s : State} (hm : s.station.mode = .halting) (h : ∀ e ∈ s.gather.entries, e.state = .closing) :
    finishHalting s =
      { s with station := { s.station with mode := if s.gather.entries = [] then .idle else .halting } } := by
  unfold finishHalting
  by_cases he : s.gather.entries = []
  · rw [if_pos ⟨hm, (all_isLive_closings h).mpr he⟩, if_pos he]
  · rw [if_neg fun hand => he ((all_isLive_closings h).mp hand.2), if_neg he, ← hm]

/-- The session ended: what a HALT of either kind brings (R164). -/
structure SessionHalted (s t : State) : Prop where
  frame : t = { s with station := t.station, gather := t.gather, line := t.line, table := t.table, log := t.log, report := t.report }
  pending : t.table.pending = []
  settle : t.table.settle = []
  watch : t.table.watch = []
  trap : t.table.trap = []
  line : t.line = { s.line with intake := [] }
  entries : ∀ e ∈ t.gather.entries, e.state = .closing ∧ e.key.group = .timing ∧ e.parkMark = false
  mode : t.station.mode = if t.gather.entries = [] then .idle else .halting
  conf : t.station.conf = s.station.conf
  halt : t.station.haltDue = false

/-- The end of a HALT, from the state with the records issued. -/
theorem haltEnded {u : State} (hkept : HaltKept (enterHalting s) u)
    (hentries : ∀ e ∈ u.gather.entries, e.state = .closing ∧ e.key.group = .timing ∧ e.parkMark = false)
    (hp : u.table.pending = []) (hs : u.table.settle = []) (ht : u.table.trap = []) :
    SessionHalted s (finishHalting (dropIntake (dropWatches u))) ∧
      (finishHalting (dropIntake (dropWatches u))).table.bypass = s.table.bypass ∧
      PortKept s.report.port (finishHalting (dropIntake (dropWatches u))).report.port ∧
      (finishHalting (dropIntake (dropWatches u))).report.transaction = s.report.transaction := by
  rw [finishHalting_mode (s := dropIntake (dropWatches u)) hkept.mode fun e he => (hentries e he).1]
  refine ⟨⟨?_, hp, hs, rfl, ht, ?_, hentries, rfl, hkept.conf, hkept.halt (enterHalting_running s)⟩, hkept.bypass, hkept.port,
    hkept.transaction⟩
  · rw [show s.pending = u.pending from hkept.pending.symm, show s.now = u.now from hkept.now.symm,
      show s.channels = u.channels from hkept.channels.symm, show s.clock = u.clock from hkept.clock.symm]
    rfl
  · rw [show s.line = u.line from hkept.line.symm]
    rfl

theorem haltSession_halted (p : Params) (s : State) :
    SessionHalted s (haltSession p s) ∧ (haltSession p s).table.bypass = s.table.bypass ∧
      PortKept s.report.port (haltSession p s).report.port ∧ (haltSession p s).report.transaction = s.report.transaction := by
  have hstop := haltSession_stopped p s
  have hlists : ∀ u : State, (finishHalting (dropIntake (dropWatches u))).table = { u.table with watch := [] } := fun u => by
    unfold finishHalting
    split <;> rfl
  have htable : (haltSession p s).table = { (haltedRecords p s).table with watch := [] } := hlists (haltedRecords p s)
  refine haltEnded (u := haltedRecords p s) (haltedRecords_haltKept p s) (haltedRecords_entries p s) ?_ ?_ ?_
  · exact (congrArg TableBlock.pending htable).symm.trans hstop.pending
  · exact (congrArg TableBlock.settle htable).symm.trans hstop.settle
  · exact (congrArg TableBlock.trap htable).symm.trans hstop.trap

/-- A grant that halts the session keeps the counts. -/
theorem endGrant_halted (hs : isRunning s = true) (ht : isRunning t = false) : endGrant s t = t := by
  unfold endGrant
  rw [hs, ht]
  rfl

/-- Settles O59: both ways into `haltSession`, with the counts that each leaves. -/
theorem haltEndsTheSession : Obligations.HaltEndsTheSession := by
  intro p s hc hm halted
  refine ⟨fun arrival hh hport hr => ?host, fun hh => ?station⟩
  case host =>
    let u := beginGrant .port s
    have hrun : isRunning u = true := isRunning_of_mode (s := u) hc hm
    have hcarry : carryOut p .halt u = (bare .ok, haltSession p u) := if_pos hrun
    have hwork : portWork p u = setPort (.done (.kept (bare .ok))) (haltSession p u) := by
      have hreq : portRequest u = some (.halt, arrival) := by
        unfold portRequest
        rw [show u.report.port = s.report.port from rfl, hport]
      unfold portWork
      rw [hreq]
      show setPort (.done (.kept (carryOut p .halt u).1)) (carryOut p .halt u).2 = _
      rw [hcarry]
    have hstop : isRunning (haltSession p u) = false := (haltSession_stopped p u).running
    obtain ⟨h, hbypass, -, -⟩ := haltSession_halted p u
    generalize haltSession p u = v at hwork hstop h hbypass
    have hex : exec .portGrant s = .next (setPort (.done (.kept (bare .ok))) v) := by
      refine congrArg _ ((grantTo_named portWork hc hh hr).trans ?_)
      rw [show beginGrant .port s = u from rfl, hwork]
      exact endGrant_halted hrun hstop
    refine ⟨_, hex, ⟨?_, h.pending, h.settle, h.watch, h.trap, h.line, h.entries, h.mode, h.conf, h.halt⟩, rfl, fun r => ?_⟩
    · rw [h.frame]
      rfl
    · show bypassOf v.table.bypass r = _
      rw [hbypass, bypassOf_beginGrant]
      unfold passedOver
      by_cases hrp : r = .port
      · rw [if_pos hrp, if_neg fun hand => hand.1 hrp]
      · rw [if_neg hrp]
        exact if_congr ⟨fun hw => ⟨hrp, hw⟩, fun hand => hand.2⟩ rfl rfl
  case station =>
    have hex : exec .stationHalt s = .next (haltSession p s) := by
      show execStationHalt s = _
      unfold execStationHalt
      rw [hc]
      exact if_pos hh
    obtain ⟨h, hbypass, hport, htrans⟩ := haltSession_halted p s
    exact ⟨_, hex, ⟨h.frame, h.pending, h.settle, h.watch, h.trap, h.line, h.entries, h.mode, h.conf, h.halt⟩,
      hbypass, hport, htrans⟩

end Sys2Proof.Machine
end


section
/-! PROOFS. Chapter 10: CONFIGURE (R17, R58, R69, R160). -/

namespace Sys2Proof.Machine

/-! ## Values at the nearer end of their ranges -/

theorem nearer_clamp {lo hi : Nat} (v : Nat) (h : lo ≤ hi) : Nearer lo hi v (clamp lo hi v) := by
  unfold Nearer clamp
  omega

theorem nearer_calibration (v : Int) : Nearer (-5000) 5000 v (max (-5000) (min 5000 v)) := by
  unfold Nearer
  omega

theorem channelNearerEnds (c : ChannelParams) : ChannelNearerEnds c (clampChannel c) where
  threshold := nearer_clamp _ (by decide)
  guardLevel := nearer_clamp _ (by decide)
  filterWidth := rfl
  guardMode := rfl
  quietTime := nearer_clamp _ (by decide)

theorem ofChannel_clampParams (p : Params) (ch : Channel) :
    ofChannel (clampParams p).channels ch = clampChannel (ofChannel p.channels ch) := by
  cases ch <;> rfl

theorem nearerEnds (p : Params) : NearerEnds p (clampParams p) where
  unclamped := rfl
  position := nearer_clamp _ (by decide)
  trapDistance := nearer_clamp _ (by decide)
  trapWindow := nearer_clamp _ (by decide)
  channels ch := by rw [ofChannel_clampParams]; exact channelNearerEnds _
  closeGap := nearer_clamp _ (by decide)
  maxDwell := nearer_clamp _ (by decide)
  floorFraction := nearer_clamp _ (by decide)
  minimumHits := nearer_clamp _ (by decide)
  calibration := nearer_calibration _
  repeatWindow := nearer_clamp _ (by decide)
  minSector := nearer_clamp _ (by decide)
  maxSector := nearer_clamp _ (by decide)
  pairWait := nearer_clamp _ (by decide)
  settleTime := nearer_clamp _ (by decide)
  tolerance := nearer_clamp _ (by decide)
  confidenceMax := nearer_clamp _ (by decide)
  forecastThreshold := nearer_clamp _ (by decide)
  slack := nearer_clamp _ (by decide)
  bypassLimit := nearer_clamp _ (by decide)
  portPromotion := nearer_clamp _ (by decide)
  fifoThreshold := nearer_clamp _ (by decide)
  readTimeout := nearer_clamp _ (by decide)
  attentionAge := nearer_clamp _ (by decide)

/-- The identities that CONFIGURE takes: the station number and the feeders (R160). -/
def NumbersTaken (p : Params) : Prop :=
  (1 ≤ p.stationNumber ∧ p.stationNumber ≤ 31) ∧ p.feeders.length ≤ 3 ∧ p.feeders.Nodup ∧
    ∀ n ∈ p.feeders, 1 ≤ n ∧ n ≤ 31 ∧ n ≠ p.stationNumber

theorem channelInRange_clamped (c : ChannelParams) : ChannelInRange (clampChannel c) where
  threshold := clamp_bounds _ _ _ (by decide)
  guardLevel := clamp_bounds _ _ _ (by decide)
  filterWidth := by
    show clampWidth c.filterWidth = 2 ∨ clampWidth c.filterWidth = 4 ∨ clampWidth c.filterWidth = 8
    unfold clampWidth
    split_ifs <;> simp
  quietTime := clamp_bounds _ _ _ (by decide)

theorem paramsInRange_clamped {p : Params} (h : NumbersTaken p) : ParamsInRange (clampParams p) where
  stationNumber := h.1
  feeders := h.2
  position := (clamp_bounds _ _ _ (by decide)).2
  trapDistance := clamp_bounds _ _ _ (by decide)
  trapWindow := clamp_bounds _ _ _ (by decide)
  channels ch := by rw [ofChannel_clampParams]; exact channelInRange_clamped _
  closeGap := clamp_bounds _ _ _ (by decide)
  maxDwell := clamp_bounds _ _ _ (by decide)
  floorFraction := clamp_bounds _ _ _ (by decide)
  minimumHits := clamp_bounds _ _ _ (by decide)
  calibration := by
    show -5000 ≤ max (-5000) (min 5000 p.calibration) ∧ max (-5000) (min 5000 p.calibration) ≤ 5000
    omega
  repeatWindow := (clamp_bounds _ _ _ (by decide)).2
  minSector := (clamp_bounds _ _ _ (by decide)).2
  maxSector := clamp_bounds _ _ _ (by decide)
  pairWait := (clamp_bounds _ _ _ (by decide)).2
  settleTime := (clamp_bounds _ _ _ (by decide)).2
  tolerance := clamp_bounds _ _ _ (by decide)
  confidenceMax := clamp_bounds _ _ _ (by decide)
  forecastThreshold := clamp_bounds _ _ _ (by decide)
  slack := clamp_bounds _ _ _ (by decide)
  bypassLimit := clamp_bounds _ _ _ (by decide)
  portPromotion := clamp_bounds _ _ _ (by decide)
  fifoThreshold := clamp_bounds _ _ _ (by decide)
  readTimeout := clamp_bounds _ _ _ (by decide)
  attentionAge := clamp_bounds _ _ _ (by decide)

theorem clampChannel_of_inRange {c : ChannelParams} (h : ChannelInRange c) : clampChannel c = c := by
  have hwidth : clampWidth c.filterWidth = c.filterWidth := by
    unfold clampWidth
    obtain h | h | h := h.filterWidth <;> rw [h] <;> rfl
  unfold clampChannel
  rw [clamp_of_mem _ _ _ h.threshold, clamp_of_mem _ _ _ h.guardLevel, clamp_of_mem _ _ _ h.quietTime, hwidth]

theorem clampParams_of_inRange {p : Params} (h : ParamsInRange p) : clampParams p = p := by
  have hcal : max (-5000) (min 5000 p.calibration) = p.calibration := by
    have := h.calibration
    omega
  have hchannels : (⟨clampChannel p.channels.a, clampChannel p.channels.b, clampChannel p.channels.c⟩ : PerChannel ChannelParams) =
      p.channels := by
    rw [clampChannel_of_inRange (c := p.channels.a) (h.channels .a), clampChannel_of_inRange (c := p.channels.b) (h.channels .b),
      clampChannel_of_inRange (c := p.channels.c) (h.channels .c)]
  unfold clampParams
  rw [hcal, hchannels, clamp_of_mem _ _ _ ⟨Nat.zero_le _, h.position⟩, clamp_of_mem _ _ _ h.trapDistance,
    clamp_of_mem _ _ _ h.trapWindow, clamp_of_mem _ _ _ h.closeGap, clamp_of_mem _ _ _ h.maxDwell,
    clamp_of_mem _ _ _ h.floorFraction, clamp_of_mem _ _ _ h.minimumHits, clamp_of_mem _ _ _ ⟨Nat.zero_le _, h.repeatWindow⟩,
    clamp_of_mem _ _ _ ⟨Nat.zero_le _, h.minSector⟩, clamp_of_mem _ _ _ h.maxSector,
    clamp_of_mem _ _ _ ⟨Nat.zero_le _, h.pairWait⟩, clamp_of_mem _ _ _ ⟨Nat.zero_le _, h.settleTime⟩,
    clamp_of_mem _ _ _ h.tolerance, clamp_of_mem _ _ _ h.confidenceMax, clamp_of_mem _ _ _ h.forecastThreshold,
    clamp_of_mem _ _ _ h.slack, clamp_of_mem _ _ _ h.bypassLimit, clamp_of_mem _ _ _ h.portPromotion,
    clamp_of_mem _ _ _ h.fifoThreshold, clamp_of_mem _ _ _ h.readTimeout, clamp_of_mem _ _ _ h.attentionAge]

/-! ## The arguments read -/

/-- The codes that R160 takes, as the arguments give them. -/
def CodesTaken (a : ConfigArgs) : Prop :=
  (a.arrangement, a.splitMask) ∈ [(1, 0), (2, 0), (3, 1), (3, 2)] ∧ a.lapLine ∈ [1, 2] ∧
    (∀ ch, (ofChannel a.channels ch).guardMode ∈ [1, 2]) ∧ a.admission ∈ [1, 2] ∧ a.arbiterMode ∈ [1, 2] ∧ a.readMode ∈ [1, 2]

theorem arrangementOf_iff (c m : Nat) (x : Arrangement) : arrangementOf c m = some x ↔ (c, m) = match x with
    | .single => (1, 0)
    | .trap => (2, 0)
    | .splitAB => (3, 1)
    | .splitABC => (3, 2) := by
  unfold arrangementOf
  split
  case h_5 h1 h2 h3 h4 => cases x <;> simp_all
  all_goals cases x <;> simp

theorem lapLineOf_iff (c : Nat) (b : Bool) : lapLineOf c = some b ↔ c = if b then 1 else 2 := by
  unfold lapLineOf
  split
  case h_3 h1 h2 => cases b <;> simp_all
  all_goals cases b <;> simp

theorem guardModeOf_iff (c : Nat) (x : GuardMode) : guardModeOf c = some x ↔ c = match x with
    | .auto => 1
    | .latched => 2 := by
  unfold guardModeOf
  split
  case h_3 h1 h2 => cases x <;> simp_all
  all_goals cases x <;> simp

theorem admissionOf_iff (c : Nat) (x : Admission) : admissionOf c = some x ↔ c = match x with
    | .anyone => 1
    | .rosterOnly => 2 := by
  unfold admissionOf
  split
  case h_3 h1 h2 => cases x <;> simp_all
  all_goals cases x <;> simp

theorem arbiterModeOf_iff (c : Nat) (x : ArbiterMode) : arbiterModeOf c = some x ↔ c = match x with
    | .localFirst => 1
    | .lineFirst => 2 := by
  unfold arbiterModeOf
  split
  case h_3 h1 h2 => cases x <;> simp_all
  all_goals cases x <;> simp

theorem readModeOf_iff (c : Nat) (x : ReadMode) : readModeOf c = some x ↔ c = match x with
    | .wait => 1
    | .immediate => 2 := by
  unfold readModeOf
  split
  case h_3 h1 h2 => cases x <;> simp_all
  all_goals cases x <;> simp

/-- The arguments read, with the enumerated ones given. -/
def askedParams (a : ConfigArgs) (x : Arrangement) (lapLine : Bool) (channels : PerChannel ChannelParams) (admission : Admission)
    (arbiterMode : ArbiterMode) (readMode : ReadMode) : Params :=
  { stationNumber := a.stationNumber, position := a.position, arrangement := x, feeders := feedersOf a,
    lapLine := lapLine, trapDistance := a.trapDistance, trapWindow := a.trapWindow, channels := channels,
    closeGap := a.closeGap, maxDwell := a.maxDwell, admission := admission, floorFraction := a.floorFraction,
    minimumHits := a.minimumHits, calibration := a.calibration, repeatWindow := a.repeatWindow, minSector := a.minSector,
    maxSector := a.maxSector, pairWait := a.pairWait, settleTime := a.settleTime, tolerance := a.tolerance,
    confidenceMax := a.confidenceMax, forecastThreshold := a.forecastThreshold, slack := a.slack, arbiterMode := arbiterMode,
    bypassLimit := a.bypassLimit, portPromotion := a.portPromotion, fifoThreshold := a.fifoThreshold, readMode := readMode,
    readTimeout := a.readTimeout, attentionAge := a.attentionAge }

/-- The enumerated arguments are read as these. -/
structure CodesRead (a : ConfigArgs) (x : Arrangement) (lapLine : Bool) (channels : PerChannel ChannelParams)
    (admission : Admission) (arbiterMode : ArbiterMode) (readMode : ReadMode) : Prop where
  arrangement : arrangementOf a.arrangement a.splitMask = some x
  lapLine : lapLineOf a.lapLine = some lapLine
  channelA : channelParams a.channels.a = some channels.a
  channelB : channelParams a.channels.b = some channels.b
  channelC : channelParams a.channels.c = some channels.c
  admission : admissionOf a.admission = some admission
  arbiterMode : arbiterModeOf a.arbiterMode = some arbiterMode
  readMode : readModeOf a.readMode = some readMode

theorem readParams_of_read {a : ConfigArgs} {x : Arrangement} {l : Bool} {cs : PerChannel ChannelParams} {ad : Admission}
    {am : ArbiterMode} {rm : ReadMode} (h : CodesRead a x l cs ad am rm) (hn : numbersValid a = true) :
    readParams a = some (askedParams a x l cs ad am rm) := by
  unfold readParams
  rw [h.arrangement, h.lapLine, h.channelA, h.channelB, h.channelC, h.admission, h.arbiterMode, h.readMode]
  exact if_pos hn

theorem read_of_readParams {a : ConfigArgs} {p : Params} (h : readParams a = some p) :
    numbersValid a = true ∧ ∃ x l cs ad am rm, CodesRead a x l cs ad am rm ∧ p = askedParams a x l cs ad am rm := by
  unfold readParams at h
  simp only [Option.bind_eq_bind, Option.bind_eq_some_iff] at h
  obtain ⟨x, hx, l, hl, ca, ha, cb, hb, cc, hc, ad, had, am, ham, rm, hrm, h⟩ := h
  by_cases hn : numbersValid a = true
  · rw [if_pos hn] at h
    exact ⟨hn, x, l, ⟨ca, cb, cc⟩, ad, am, rm, ⟨hx, hl, ha, hb, hc, had, ham, hrm⟩, (Option.some.inj h).symm⟩
  · rw [if_neg hn] at h
    exact nomatch h

theorem channelAsked_of_params {c : ChannelArgs} {d : ChannelParams} (h : channelParams c = some d) : ChannelAsked c d := by
  obtain ⟨m, hm, rfl⟩ := Option.map_eq_some_iff.mp h
  exact ⟨rfl, rfl, rfl, (guardModeOf_iff _ m).mp hm, rfl⟩

theorem askedBy_of_read {a : ConfigArgs} {x : Arrangement} {l : Bool} {cs : PerChannel ChannelParams} {ad : Admission}
    {am : ArbiterMode} {rm : ReadMode} (h : CodesRead a x l cs ad am rm) : AskedBy a (askedParams a x l cs ad am rm) where
  stationNumber := rfl
  position := rfl
  arrangement := (arrangementOf_iff _ _ x).mp h.arrangement
  feeders := rfl
  lapLine := (lapLineOf_iff _ l).mp h.lapLine
  trapDistance := rfl
  trapWindow := rfl
  channels ch := match ch with
    | .a => channelAsked_of_params h.channelA
    | .b => channelAsked_of_params h.channelB
    | .c => channelAsked_of_params h.channelC
  closeGap := rfl
  maxDwell := rfl
  admission := (admissionOf_iff _ ad).mp h.admission
  floorFraction := rfl
  minimumHits := rfl
  calibration := rfl
  repeatWindow := rfl
  minSector := rfl
  maxSector := rfl
  pairWait := rfl
  settleTime := rfl
  tolerance := rfl
  confidenceMax := rfl
  forecastThreshold := rfl
  slack := rfl
  arbiterMode := (arbiterModeOf_iff _ am).mp h.arbiterMode
  bypassLimit := rfl
  portPromotion := rfl
  fifoThreshold := rfl
  readMode := (readModeOf_iff _ rm).mp h.readMode
  readTimeout := rfl
  attentionAge := rfl

theorem mem_one_two {c : Nat} (h : c ∈ [1, 2]) : c = 1 ∨ c = 2 := by simpa using h

theorem channelParams_of_mode {c : ChannelArgs} (h : c.guardMode ∈ [1, 2]) : ∃ d, channelParams c = some d := by
  unfold channelParams
  obtain h | h := mem_one_two h <;> rw [h] <;> exact ⟨_, rfl⟩

/-- The codes that R160 takes are those that are read. -/
theorem codesTaken_iff (a : ConfigArgs) : CodesTaken a ↔ ∃ x l cs ad am rm, CodesRead a x l cs ad am rm := by
  constructor
  · rintro ⟨harr, hlap, hmode, had, ham, hrm⟩
    obtain ⟨x, hx⟩ : ∃ x, arrangementOf a.arrangement a.splitMask = some x := by
      simp only [List.mem_cons, Prod.mk.injEq, List.not_mem_nil, or_false] at harr
      obtain ⟨h, k⟩ | ⟨h, k⟩ | ⟨h, k⟩ | ⟨h, k⟩ := harr <;> rw [h, k] <;> exact ⟨_, rfl⟩
    obtain ⟨l, hl⟩ : ∃ l, lapLineOf a.lapLine = some l := by
      obtain h | h := mem_one_two hlap <;> rw [h] <;> exact ⟨_, rfl⟩
    obtain ⟨ca, ha⟩ := channelParams_of_mode (hmode .a)
    obtain ⟨cb, hb⟩ := channelParams_of_mode (hmode .b)
    obtain ⟨cc, hc⟩ := channelParams_of_mode (hmode .c)
    obtain ⟨ad, had⟩ : ∃ x, admissionOf a.admission = some x := by
      obtain h | h := mem_one_two had <;> rw [h] <;> exact ⟨_, rfl⟩
    obtain ⟨am, ham⟩ : ∃ x, arbiterModeOf a.arbiterMode = some x := by
      obtain h | h := mem_one_two ham <;> rw [h] <;> exact ⟨_, rfl⟩
    obtain ⟨rm, hrm⟩ : ∃ x, readModeOf a.readMode = some x := by
      obtain h | h := mem_one_two hrm <;> rw [h] <;> exact ⟨_, rfl⟩
    exact ⟨x, l, ⟨ca, cb, cc⟩, ad, am, rm, ⟨hx, hl, ha, hb, hc, had, ham, hrm⟩⟩
  · rintro ⟨x, l, cs, ad, am, rm, h⟩
    have hasked := askedBy_of_read h
    have hmode : ∀ ch, (ofChannel a.channels ch).guardMode ∈ [1, 2] := fun ch => by
      rw [(hasked.channels ch).guardMode]
      cases (ofChannel (askedParams a x l cs ad am rm).channels ch).guardMode <;> simp
    refine ⟨?_, ?_, hmode, ?_, ?_, ?_⟩
    · rw [hasked.arrangement]
      cases (askedParams a x l cs ad am rm).arrangement <;> simp
    · rw [hasked.lapLine]
      cases (askedParams a x l cs ad am rm).lapLine <;> simp
    · rw [hasked.admission]
      cases (askedParams a x l cs ad am rm).admission <;> simp
    · rw [hasked.arbiterMode]
      cases (askedParams a x l cs ad am rm).arbiterMode <;> simp
    · rw [hasked.readMode]
      cases (askedParams a x l cs ad am rm).readMode <;> simp

/-- The numbers that R160 takes: each feeder byte names a station or none. -/
theorem numbersValid_iff (a : ConfigArgs) : numbersValid a = true ↔
    1 ≤ a.stationNumber ∧ a.stationNumber ≤ 31 ∧ (∀ f ∈ [a.feeder1, a.feeder2, a.feeder3], f ≤ 31 ∧ f ≠ a.stationNumber) ∧
      (a.feeder1 ≠ 0 → a.feeder1 ≠ a.feeder2 ∧ a.feeder1 ≠ a.feeder3) ∧ (a.feeder2 ≠ 0 → a.feeder2 ≠ a.feeder3) := by
  unfold numbersValid feedersOf
  by_cases h1 : a.feeder1 = 0 <;> by_cases h2 : a.feeder2 = 0 <;> by_cases h3 : a.feeder3 = 0 <;> simp [h1, h2, h3] <;> omega

theorem numbersTaken_of_valid {a : ConfigArgs} (h : numbersValid a = true) (x : Arrangement) (l : Bool)
    (cs : PerChannel ChannelParams) (ad : Admission) (am : ArbiterMode) (rm : ReadMode) :
    NumbersTaken (askedParams a x l cs ad am rm) := by
  have hv := h
  unfold numbersValid at hv
  simp only [Bool.and_eq_true, decide_eq_true_eq, List.all_eq_true, bne_iff_ne] at hv
  obtain ⟨⟨⟨h1, h31⟩, hall⟩, hnodup⟩ := hv
  refine ⟨⟨h1, h31⟩, List.length_filter_le _ _, hnodup, fun n hn => ?_⟩
  have hne : n ≠ 0 := bne_iff_ne.mp (List.mem_filter.mp hn).2
  exact ⟨Nat.one_le_iff_ne_zero.mpr hne, hall n hn⟩

/-! ## CONFIGURE (O55) -/

theorem exec_configure (a : ConfigArgs) (levels : PerChannel Nat) (s : State) :
    exec (.configure a levels) s = execConfigure a levels s := rfl

theorem offerTime_frame (s : State) : offerTime s = { s with clock := (offerTime s).clock, line := (offerTime s).line } := by
  unfold offerTime
  split
  · rw [(settleLine_frame _).1]
    rfl
  · rfl

theorem offerTime_empty {s : State} (hq : s.line.queue = []) :
    (offerTime s).clock.timeDue = none ∧ (offerTime s).line.queue = [freshNotice .time .middle s.now] := by
  have hoffer : offerTime s = settleLine (setQueue (enqueue (freshNotice .time .middle s.now) s.line.queue)
      { s with clock := { s.clock with timeDue := none } }) := if_pos (by rw [hq]; rfl)
  rw [hoffer, (settleLine_frame _).2, (settleLine_frame _).1, hq]
  exact ⟨rfl, rfl⟩

theorem offerStatus_joins {p : Params} {m : Notice} {s : State} (hq : s.line.queue = [m]) (hm : m.body = .time) :
    (offerStatus p s).line.queue = [m, freshNotice (.status (statusContents p s)) .low s.now] := by
  have hwait : isWaitingStatus m = false := by unfold isWaitingStatus; rw [hm]
  have htimed : isTimed m = true := by unfold isTimed; rw [hm]
  have hany : s.line.queue.any isWaitingStatus = false := by rw [hq, List.any_cons, hwait]; rfl
  have hroom : timedRoom s.line.queue = true := (timedRoom_iff _).mpr (by rw [hq]; simp [htimed])
  unfold offerStatus
  rw [hany, hroom]
  show (settleLine (setQueue (enqueue _ s.line.queue) s)).line.queue = _
  rw [(settleLine_frame _).2, hq]
  exact enqueue_low [m] rfl

theorem configuredGuard_eq (p : Params) (levels : PerChannel Nat) (s : State) (ch : Channel) :
    configuredGuard p levels s ch =
      if ch ∈ channelsOf p.arrangement then
        if (ofChannel p.channels ch).guardLevel ≤ ofChannel levels ch then
          { Guard.initial with
            high := true, state := .watching
            filterDue := some (later s.now ((ofChannel p.channels ch).filterWidth * 1000)) }
        else Guard.initial
      else guardOf s ch := by
  have hon : (channelsOf p.arrangement).contains ch = true ↔ ch ∈ channelsOf p.arrangement := by simp
  unfold configuredGuard
  exact if_congr hon rfl rfl

/-- What the schedules of a new configuration leave: the clock's peers and every block but clock and line. -/
theorem startSchedules_frame (p : Params) (s : State) :
    startSchedules p s = { s with clock := (startSchedules p s).clock, line := (startSchedules p s).line } ∧
      (startSchedules p s).clock.peers = s.clock.peers ∧
      (startSchedules p s).clock.statusDue = some (later s.now 1000000) := by
  have ht := offerTime_frame s
  have hs := offerStatus_frame p (scheduleStatus (offerTime s))
  have hclock : (startSchedules p s).clock = (scheduleStatus (offerTime s)).clock := by
    unfold startSchedules
    rw [hs]
  have hnow : (offerTime s).now = s.now := (offerTime_unit s).now
  refine ⟨?_, ?_, ?_⟩
  · unfold startSchedules
    rw [hs, ht]
    rfl
  · rw [hclock]
    exact (offerTime_unit s).peers
  · rw [hclock, ← hnow]
    rfl

/-- Settles O55: the arguments that are read are those R160 takes, and the rest is the configuration taken and its schedules. -/
theorem configureTakesTheClampedValues : Obligations.ConfigureTakesTheClampedValues := by
  intro a levels s taken
  have htaken : taken ↔ numbersValid a = true ∧ CodesTaken a := by
    rw [numbersValid_iff]
    show (_ ∧ _ ∧ _ ∧ _ ∧ _ ∧ _) ↔ _
    simp only [CodesTaken, and_assoc]
  refine ⟨fun hc => ?refused, fun hc hn => ?bad, fun hc ht => ?taken⟩
  case refused =>
    refine ⟨respond (bare .refusedState) s, ?_, rfl⟩
    obtain ⟨p, hp⟩ := Option.ne_none_iff_exists'.mp hc
    rw [exec_configure, execConfigure, hp]
  case bad =>
    refine ⟨respond (bare .badArgument) s, ?_, rfl⟩
    have hread : readParams a = none := by
      cases hr : readParams a with
      | none => rfl
      | some p =>
        obtain ⟨hv, x, l, cs, ad, am, rm, hcodes, -⟩ := read_of_readParams hr
        exact absurd (htaken.mpr ⟨hv, (codesTaken_iff a).mpr ⟨x, l, cs, ad, am, rm, hcodes⟩⟩) hn
    rw [exec_configure, execConfigure, hc, hread]
  case taken =>
    obtain ⟨hv, hcodes⟩ := htaken.mp ht
    obtain ⟨x, l, cs, ad, am, rm, hcodes⟩ := (codesTaken_iff a).mp hcodes
    have hread := readParams_of_read hcodes hv
    have hnumbers := numbersTaken_of_valid hv x l cs ad am rm
    have hasked := askedBy_of_read hcodes
    generalize askedParams a x l cs ad am rm = asked at hread hnumbers hasked
    let u := takeConfig asked levels s
    have hex : exec (.configure a levels) s =
        .next (respond (bare .ok) (judgeAttn (startSchedules (clampParams asked) u))) := by
      rw [exec_configure, execConfigure, hc, hread]
    obtain ⟨hframe, hpeers, hdue⟩ := startSchedules_frame (clampParams asked) u
    have hclamped : ParamsInRange asked ↔ clampParams asked = asked :=
      ⟨clampParams_of_inRange, fun h => h ▸ paramsInRange_clamped hnumbers⟩
    refine ⟨_, clampParams asked, hex, ?_, ⟨asked, hread, hasked, rfl, nearerEnds asked, paramsInRange_clamped hnumbers, hclamped,
      ?_⟩, ?_, ?_, fun ch => ?_, hpeers, hdue, ?_, fun hq => ?_⟩
    · rw [hframe]
      rfl
    · rw [hframe]
      show { s.station with
        conf := some (clampParams asked), mode := .idle, clamped := s.station.clamped || clampParams asked != asked } = _
      by_cases h : clampParams asked = asked
      · rw [if_pos h, bne_eq_false_iff_eq.mpr h, Bool.or_false]
      · rw [if_neg h, bne_iff_ne.mpr h, Bool.or_true]
    · rw [hframe]
      rfl
    · rw [hframe]
      rfl
    · rw [hframe]
      exact (guardOf_takeConfig asked levels s ch).trans (configuredGuard_eq _ levels s ch)
    · rw [hframe]
      rfl
    · obtain ⟨hnone, hqueue⟩ := offerTime_empty (s := u) hq
      have hjoin : (startSchedules (clampParams asked) u).line.queue =
          [freshNotice .time .middle s.now,
            freshNotice (.status (statusContents (clampParams asked) (scheduleStatus (offerTime u)))) .low (offerTime u).now] :=
        offerStatus_joins (s := scheduleStatus (offerTime u)) hqueue rfl
      have hstation : (offerTime u).station = u.station := (offerTime_unit u).station
      refine ⟨?_, _, _, _, hjoin, rfl, rfl, ?_, rfl, rfl, rfl, (offerTime_unit u).now⟩
      · show (startSchedules (clampParams asked) u).clock.timeDue = none
        unfold startSchedules
        rw [offerStatus_frame]
        exact hnone
      · show stationStateCode (noticeStationState (stationState (scheduleStatus (offerTime u)))) = 2
        unfold stationState
        rw [scheduleStatus_station, hstation]
        rfl

end Sys2Proof.Machine
end


section
/-! PROOFS. Chapters 7 and 8: what a clean sector teaches, and a passing processed in its slot at a lap line without feeders
(R113 to R115, R118, R134). -/

namespace Sys2Proof.Machine

variable {p : Params} {s t : State}

/-! ## The forecast unit learns (R134) -/

theorem isClean_iff (w : Flags) :
    isClean w = true ↔ hasFlag w .short = false ∧ hasFlag w .clockSoft = false ∧ hasFlag w .forecast = false := by
  unfold isClean
  simp only [Bool.and_eq_true, Bool.not_eq_true', and_assoc]

theorem slotAfterSector_paired {r : SectorRec} {v : Nat} {x : Slot} (ho : r.outcome = .paired) (hv : r.sector = some v) :
    slotAfterSector p r x =
      if isClean r.flags then
        learnSector p v { x with issued := some { number := r.number, tag := r.tag, value := r.sector, flags := r.flags } }
      else { x with issued := some { number := r.number, tag := r.tag, value := r.sector, flags := r.flags } } := by
  unfold slotAfterSector
  rw [ho, hv]

/-- The distance of two values, as the forecast unit takes it. -/
theorem max_sub_min (a b : Nat) : max a b - min a b = ((a : Int) - b).natAbs := by omega

/-- Settles O45: the record is learned from exactly where it is clean, and the rest are the cases of R134. -/
theorem cleanSectorsTeachTheForecast : Obligations.CleanSectorsTeachTheForecast := by
  intro p r v x ho hv y
  have hy : y = _ := slotAfterSector_paired (p := p) (x := x) ho hv
  refine ⟨fun hs hc hf => ?learned, fun h => ?left⟩
  case learned =>
    rw [if_pos ((isClean_iff _).mpr ⟨hs, hc, hf⟩)] at hy
    rw [hy]
    unfold learnSector
    dsimp only
    rw [max_sub_min]
    refine ⟨rfl, fun h0 => if_pos h0, fun h0 hle => ?near, fun h0 hlt => ?far⟩
    case near => rw [if_neg h0, if_pos hle]
    case far =>
      rw [if_neg h0, if_neg (by omega)]
      omega
  case left =>
    have hdirty : ¬ isClean r.flags = true := fun hclean => by
      obtain ⟨hs, hc, hf⟩ := (isClean_iff _).mp hclean
      simp [hs, hc, hf] at h
    rw [if_neg hdirty] at hy
    rw [hy]
    exact ⟨rfl, rfl⟩

/-! ## What an operation of the table changes -/

/-- An operation that spares the rest changes the table, the log, the report port and the line alone. -/
theorem SparesRest.frame (h : SparesRest s t) : t = { s with table := t.table, log := t.log, report := t.report, line := t.line } := by
  obtain ⟨hp, hn, hst, hch, hg, hc⟩ := h
  cases t
  simp_all

theorem touchSlot_slot (i : SlotNo) (s : State) :
    slotOf (touchSlot i s) i = { slotOf s i with state := .active, lastActivity := some s.now } := slotOf_setSlot_same _ _ _

theorem touchSlot_other {i j : SlotNo} (s : State) (h : j ≠ i) : slotOf (touchSlot i s) j = slotOf s j := slotOf_setSlot_other _ _ _ _ h

theorem slotOf_congr (h : t.table.slots = s.table.slots) (i : SlotNo) : slotOf t i = slotOf s i := by
  unfold slotOf
  rw [h]

/-- Two slot updates of one slot are the second. -/
theorem setSlot_setSlot (i : SlotNo) (x y : Slot) (s : State) : setSlot i y (setSlot i x s) = setSlot i y s := by
  unfold setSlot
  simp

/-! ## The notice and the records of a passing -/

theorem offerPassing_table (n transponder : Nat) (u : Time) (w : Flags) (s : State) :
    (offerPassing n transponder u w s).table = s.table ∧ (offerPassing n transponder u w s).report = s.report := by
  unfold offerPassing
  rw [offerHigh_frame]
  exact ⟨rfl, rfl⟩

/-- A PASSING notice with a place in the queue leaves the log as it is. -/
theorem offerPassing_log {s : State} (h : s.line.queue.length < 24) (n transponder : Nat) (u : Time) (w : Flags) :
    (offerPassing n transponder u w s).log = s.log := by
  unfold offerPassing
  obtain ⟨-, he⟩ | ⟨hfull, -⟩ := offerHigh_cases n (.passing n transponder u (dropFlag w .untracked)) .passing s
  · rw [he, (settleLine_frame _).1]
    rfl
  · exact absurd h (Nat.not_lt.mpr hfull)

/-- A PASSING notice behind High notices alone takes the tail of the queue, and only a LISTENING line changes its state. -/
theorem offerPassing_line {s : State} (h : s.line.queue.length < 24) (hhigh : ∀ m ∈ s.line.queue, m.cls = .high)
    (n transponder : Nat) (u : Time) (w : Flags) :
    (offerPassing n transponder u w s).line.queue =
        s.line.queue ++ [freshNotice (.passing n transponder u (dropFlag w .untracked)) .high s.now] ∧
      (s.line.state ≠ .listening → (offerPassing n transponder u w s).line =
        { s.line with queue := (offerPassing n transponder u w s).line.queue }) := by
  obtain ⟨-, he⟩ | ⟨hfull, -⟩ := offerHigh_cases n (.passing n transponder u (dropFlag w .untracked)) .passing s
  case inr => exact absurd h (Nat.not_lt.mpr hfull)
  case inl =>
    have hqueue := enqueue_high (n := freshNotice (.passing n transponder u (dropFlag w .untracked)) .high s.now)
      (before := s.line.queue) (after := []) rfl hhigh nofun
    rw [List.append_nil] at hqueue
    unfold offerPassing
    rw [he, hqueue]
    refine ⟨(settleLine_frame _).2, fun hs => ?_⟩
    rw [(settleLine_of_notice (s := setQueue _ s) (List.append_ne_nil_of_right_ne_nil _ (List.cons_ne_nil _ _))).2 hs]
    rfl

/-- The entry written into the one place of a log that is reserved for it. -/
theorem writeLog_reserved {n : Nat} (e : LogEntry) (h : s.log.places = [{ number := n, entry := none }]) :
    (writeLog n e s).log = { s.log with places := [{ number := n, entry := some e }] } := by
  have hplaces : s.log.places.map (fillPlace n e) = [{ number := n, entry := some e }] := by
    rw [h]
    exact congrArg (fun q => [q]) (if_pos rfl)
  exact congrArg (fun q => { s.log with places := q }) hplaces

theorem logEntry_reserved {n : Nat} (e : LogEntry) (h : s.log.places = [{ number := n, entry := none }]) :
    logEntry (writeLog n e s) n = some e :=
  logEntry_writeLog_same n e s ⟨_, h ▸ List.mem_singleton_self _, rfl⟩

/-! ## A loop passing in its slot -/

theorem processPassing_own {x : NewPassing} {i : SlotNo} (h : slotFor x.transponder s = some i) :
    processPassing p x s = processInSlot p i x s := by
  unfold processPassing
  rw [slotToProcess_own h]

/-- A slot whose last local passing has no span has no forecast passing to replace. -/
theorem replaceForecast_unspanned {i : SlotNo} (x : NewPassing) (h : ∀ l, (slotOf s i).last = some l → l.span = none) :
    replaceForecast p i x s = s := by
  unfold replaceForecast
  cases hl : (slotOf s i).last with
  | none => rfl
  | some l =>
    dsimp only
    rw [h l hl]

theorem isRepeat_touchSlot (x : NewPassing) (i : SlotNo) (s : State) :
    isRepeat p x (slotOf (touchSlot i s) i) = isRepeat p x (slotOf s i) := by
  rw [touchSlot_slot]
  rfl

/-- The REPEAT test of a loop passing after a held one. -/
theorem isRepeat_loop {x : NewPassing} {y : Slot} {l : LastPassing} (hk : x.kind = .loop) (hl : y.last = some l) :
    isRepeat p x y = decide (timeDiff x.instant l.instant < (p.repeatWindow * 1000 : Nat)) := by
  unfold isRepeat
  rw [hk, hl]
  rfl

/-- The first passing of a slot is no REPEAT. -/
theorem isRepeat_first (x : NewPassing) {y : Slot} (hl : y.last = none) : isRepeat p x y = false := by
  unfold isRepeat
  rw [hl]
  exact Bool.and_false _

/-- A passing of slot `i` written into the log with the flags `w`. -/
def logPassing (i : SlotNo) (x : NewPassing) (w : Flags) (s : State) : State := writeLog x.number (entryOf x (some i) w s.now) s

/-- The state in which a passing meets its REPEAT test: a FORECAST passing leaves activity and forecast passing alone. -/
def beforeRepeat (p : Params) (i : SlotNo) (x : NewPassing) (s : State) : State :=
  if x.kind = .forecast then s else replaceForecast p i x (touchSlot i s)

theorem beforeRepeat_now (p : Params) (i : SlotNo) (x : NewPassing) (s : State) : (beforeRepeat p i x s).now = s.now := by
  unfold beforeRepeat
  split
  · rfl
  · exact (replaceForecast_spares p i x (touchSlot i s)).now

theorem beforeRepeat_unspanned {x : NewPassing} {i : SlotNo} (hk : x.kind ≠ .forecast)
    (hs : ∀ l, (slotOf s i).last = some l → l.span = none) : beforeRepeat p i x s = touchSlot i s := by
  refine (if_neg hk).trans (replaceForecast_unspanned x fun l hl => hs l ?_)
  rwa [touchSlot_slot] at hl

theorem processInSlot_repeat {x : NewPassing} {i : SlotNo} (hr : isRepeat p x (slotOf (beforeRepeat p i x s) i) = true) :
    processInSlot p i x s = offerPassing x.number x.transponder x.instant (addFlag x.flags .repeated)
      (offerRecord
        (slotPassingRec p (logPassing i x (addFlag x.flags .repeated) (beforeRepeat p i x s)) i x (addFlag x.flags .repeated))
        (logPassing i x (addFlag x.flags .repeated) (beforeRepeat p i x s))) := by
  unfold logPassing
  rw [beforeRepeat_now]
  exact (if_pos hr).trans (by rw [show (if x.kind = .forecast then s else replaceForecast p i x (touchSlot i s)) =
    beforeRepeat p i x s from rfl, hr]; rfl)

theorem processInSlot_counted {x : NewPassing} {i : SlotNo} (hr : isRepeat p x (slotOf (beforeRepeat p i x s) i) = false) :
    processInSlot p i x s = countAndPair p i x x.flags (logPassing i x x.flags (beforeRepeat p i x s)) := by
  unfold logPassing
  rw [beforeRepeat_now]
  exact (if_neg (by rw [Bool.not_eq_true]; exact hr)).trans
    (by rw [show (if x.kind = .forecast then s else replaceForecast p i x (touchSlot i s)) =
      beforeRepeat p i x s from rfl, hr]; rfl)

/-- The PASSING record gives the number and the flags of its passing. -/
theorem slotPassingRec_eq (p : Params) (s : State) (i : SlotNo) (x : NewPassing) (w : Flags) :
    ∃ r, slotPassingRec p s i x w = .passing r ∧ r.number = x.number ∧ r.flags = w := ⟨_, rfl, rfl, rfl⟩

/-- Settles O43: the passing is logged, reported and offered, on a table that only its slot's activity has changed. -/
theorem repeatPassingChangesNothingElse : Obligations.RepeatPassingChangesNothingElse := by
  intro p i l x s hc hk hi hl hspan hlt hlog hfifo hqueue t
  have hbefore : beforeRepeat p i x s = touchSlot i s :=
    beforeRepeat_unspanned (by rw [hk]; exact PassingKind.noConfusion) fun k hlast => by
      cases hl.symm.trans hlast
      exact hspan
  have hr : isRepeat p x (slotOf (beforeRepeat p i x s) i) = true := by
    rw [hbefore, isRepeat_touchSlot]
    exact (isRepeat_loop hk hl).trans (decide_eq_true hlt)
  let b := logPassing i x (addFlag x.flags .repeated) (touchSlot i s)
  obtain ⟨r, hrec, hnumber, hflags⟩ := slotPassingRec_eq p b i x (addFlag x.flags .repeated)
  have ht : t = offerPassing x.number x.transponder x.instant (addFlag x.flags .repeated) (offerRecord (.passing r) b) := by
    rw [← hrec]
    show processPassing p x s = _
    rw [processPassing_own hi, processInSlot_repeat hr, hbefore]
  obtain ⟨htable, hreport⟩ :=
    offerPassing_table x.number x.transponder x.instant (addFlag x.flags .repeated) (offerRecord (.passing r) b)
  have hlogged :=
    offerPassing_log (s := offerRecord (.passing r) b) hqueue x.number x.transponder x.instant (addFlag x.flags .repeated)
  rw [← ht] at htable hreport hlogged
  have hslots : t.table.slots = (touchSlot i s).table.slots := congrArg TableBlock.slots htable
  refine ⟨(processPassing_spares p x s).frame, ?table, fun j hj => (slotOf_congr hslots j).trans (touchSlot_other s hj),
    (slotOf_congr hslots i).trans (touchSlot_slot i s), ?entry, ⟨r, ?record, hnumber, hflags⟩⟩
  case table =>
    rw [htable]
    rfl
  case entry =>
    refine ⟨entryOf x (some i) (addFlag x.flags .repeated) s.now, ?_, rfl, rfl, rfl⟩
    rw [logEntry_congr (s := b) hlogged]
    exact logEntry_reserved (s := touchSlot i s) _ hlog
  case record =>
    rw [hreport]
    exact offerRecord_into (s := b) hfifo

end Sys2Proof.Machine
end


section
/-! PROOFS. Chapter 7: laps at a lap line without feeders, and the first passing of a LOCAL grant (R82, R94, R97, R100, R113, R115,
R118). -/

namespace Sys2Proof.Machine

variable {p : Params} {s t : State}

/-- Two records offered with room enter the FIFO in their order. -/
theorem offerRecord_both {a b : RecordBody} (h : s.report.fifo.length < 127) :
    (offerRecord b (offerRecord a s)).report.fifo =
      s.report.fifo ++ [{ issued := s.now, body := a }, { issued := s.now, body := b }] := by
  have hfirst := offerRecord_into (b := a) (s := s) (by omega)
  have hroom : (offerRecord a s).report.fifo.length < 128 := by
    rw [hfirst, List.length_append, List.length_singleton]
    omega
  rw [offerRecord_into hroom, hfirst, List.append_assoc]
  rfl

/-! ## Counting a passing (R115) -/

/-- The slot after a lap of `lap` that the passing `x` with the flags `w` ends. -/
def lappedState (i : SlotNo) (x : NewPassing) (w : Flags) (lap : Int) (s : State) : State :=
  setSlot i (lappedSlot lap (countedSlot x w true (slotOf s i))) s

theorem countPassing_lap {x : NewPassing} {i : SlotNo} {w : Flags} {l : LastPassing} {lap : Int} (hp : p.lapLine = true)
    (hl : (slotOf s i).last = some l) (hlap : timeDiff x.instant l.instant = lap) :
    countPassing p i x w s =
      (writeLap x.number (countUp (slotOf s i).lapCount) lap (beatsBest lap (slotOf s i).bestLap) (lappedState i x w lap s),
        [lapRec (lappedState i x w lap s) i x.number lap (lapRecFlags (beatsBest lap (slotOf s i).bestLap) l.flags w)]) := by
  have hcount : (slotOf (lappedState i x w lap s) i).lapCount = countUp (slotOf s i).lapCount := by
    unfold lappedState
    rw [slotOf_setSlot_same]
    rfl
  unfold countPassing
  dsimp only
  rw [hp, hl]
  dsimp only
  rw [hlap, ← hcount]
  rfl

theorem countPassing_first {x : NewPassing} {i : SlotNo} {w : Flags} (hl : (slotOf s i).last = none) :
    countPassing p i x w s = (setSlot i (countedSlot x w false (slotOf s i)) s, []) := by
  unfold countPassing
  dsimp only
  rw [hl]
  cases p.lapLine <;> rfl

/-! ## A station that pairs no sector and judges no trap -/

theorem sectorStep_unfed {i : SlotNo} {x : NewPassing} (h : p.feeders = []) : sectorStep p i x s = (s, []) := by
  unfold sectorStep
  rw [h]
  rfl

theorem offerToTrap_untrapped {i : SlotNo} {x : NewPassing} {w : Flags} (h : p.arrangement ≠ .trap) :
    offerToTrap p i x w s = s := by
  unfold offerToTrap trapActive
  rw [beq_eq_false_iff_ne.mpr h]
  rfl

/-- Without feeders and without a trap, a counted passing is reported, its lap behind it, and offered to the line. -/
theorem countAndPair_alone {i : SlotNo} {x : NewPassing} {w : Flags} {records : List RecordBody} (hf : p.feeders = [])
    (ha : p.arrangement = .single) (hcount : countPassing p i x w s = (t, records)) :
    countAndPair p i x w s = offerPassing x.number x.transponder x.instant w
      (offerRecords records (offerRecord (slotPassingRec p (removeWatch i t) i x w) (removeWatch i t))) := by
  unfold countAndPair
  rw [hcount, offerToTrap_untrapped (by rw [ha]; decide)]
  dsimp only
  rw [sectorStep_unfed hf]
  dsimp only
  rw [List.append_nil]

/-! ## The values of a lap -/

theorem beatsBest_eq (lap : Int) (b : Option Int) :
    beatsBest lap b = match b with
      | none => true
      | some c => decide (lap < c) := by
  cases b <;> rfl

/-- The best lap time after a lap. -/
theorem bestAfter_eq (lap : Int) (b : Option Int) :
    (if beatsBest lap b then some lap else b) = some (if beatsBest lap b then lap else b.getD lap) := by
  cases b with
  | none => rfl
  | some c =>
    show (if decide (lap < c) then some lap else some c) = some (if decide (lap < c) then lap else c)
    split <;> rfl

/-- The LAP record of two passings that are neither FORECAST nor MANUAL carries BEST alone. -/
theorem lapRecFlags_plain {best : Bool} {a b : Flags} (haf : hasFlag a .forecast = false) (ham : hasFlag a .manual = false)
    (hbf : hasFlag b .forecast = false) (hbm : hasFlag b .manual = false) :
    lapRecFlags best a b = if best then 1024 else 0 := by
  unfold lapRecFlags
  dsimp only
  rw [haf, ham, hbf, hbm]
  cases best <;> rfl

theorem transponder_of_slotFor {n : Nat} {i : SlotNo} (h : slotFor n s = some i) : (slotOf s i).transponder = some n := by
  obtain ⟨-, ht⟩ := slotFor_some_holds n s i h
  exact ht

/-- Settles O42: the lap is counted in the slot, written into the entry and reported behind the passing. -/
theorem secondPassingCountsALap : Obligations.SecondPassingCountsALap := by
  intro p i l x s hc ha hp hf hk hi hl hspan hlf hlm hxf hxm hle hlog hfifo hqueue t lap best count bestAfter
  have hbest : beatsBest lap (slotOf s i).bestLap = best := beatsBest_eq _ _
  have hbefore : beforeRepeat p i x s = touchSlot i s :=
    beforeRepeat_unspanned (by rw [hk]; exact PassingKind.noConfusion) fun k hlast => by
      cases hl.symm.trans hlast
      exact hspan
  have hr : isRepeat p x (slotOf (beforeRepeat p i x s) i) = false := by
    rw [hbefore, isRepeat_touchSlot]
    exact (isRepeat_loop hk hl).trans (decide_eq_false (Int.not_lt.mpr hle))
  let b := logPassing i x x.flags (touchSlot i s)
  have hslot : slotOf b i = { slotOf s i with state := .active, lastActivity := some s.now } := touchSlot_slot i s
  let u := lappedState i x x.flags lap b
  have hlapped : slotOf u i = { slotOf s i with
      state := .active, lastActivity := some s.now, previous := some (l.number, l.instant), spent := none,
      last := some { number := x.number, instant := x.instant, flags := x.flags, span := x.span, lapCounted := true },
      lapCount := count, lastLap := some lap, bestBefore := (slotOf s i).bestLap, bestLap := some bestAfter } := by
    have hbestLap : (if beatsBest lap (slotOf s i).bestLap then some lap else (slotOf s i).bestLap) = some bestAfter := by
      rw [bestAfter_eq, hbest]
    show slotOf (setSlot i _ b) i = _
    rw [slotOf_setSlot_same, hslot]
    unfold lappedSlot countedSlot
    dsimp only
    rw [hl, hbestLap]
    rfl
  let c := removeWatch i (writeLap x.number count lap best u)
  let lapped := lapRec u i x.number lap (lapRecFlags best l.flags x.flags)
  let passed := slotPassingRec p c i x x.flags
  have hcount : countPassing p i x x.flags b = (writeLap x.number count lap best u, [lapped]) := by
    have h := countPassing_lap (w := x.flags) hp (show (slotOf b i).last = some l by rw [hslot]; exact hl) (Eq.refl lap)
    rw [hslot] at h
    rw [h, hbest]
    rfl
  have ht : t = offerPassing x.number x.transponder x.instant x.flags (offerRecord lapped (offerRecord passed c)) := by
    show processPassing p x s = _
    rw [processPassing_own hi, processInSlot_counted hr, hbefore, countAndPair_alone hf ha hcount]
    rfl
  obtain ⟨htable, hreport⟩ :=
    offerPassing_table x.number x.transponder x.instant x.flags (offerRecord lapped (offerRecord passed c))
  have hlogged :=
    offerPassing_log (s := offerRecord lapped (offerRecord passed c)) hqueue x.number x.transponder x.instant x.flags
  rw [← ht] at htable hreport hlogged
  have hslots : t.table.slots = u.table.slots := (congrArg TableBlock.slots htable).trans rfl
  refine ⟨(processPassing_spares p x s).frame, fun j hj => ?others, (slotOf_congr hslots i).trans hlapped, ?entry, ?records⟩
  case others =>
    rw [slotOf_congr hslots j]
    exact (slotOf_setSlot_other _ _ _ _ hj).trans (touchSlot_other s hj)
  case entry =>
    refine ⟨{ entryOf x (some i) x.flags s.now with lap := some { count := count, time := lap, best := best } }, ?_,
      rfl, rfl, rfl, rfl⟩
    rw [logEntry_congr (s := c) hlogged]
    show logEntry (updateLog x.number _ u) x.number = _
    have hentry : logEntry u x.number = some (entryOf x (some i) x.flags s.now) :=
      (logEntry_congr (s := b) rfl _).trans (logEntry_reserved (s := touchSlot i s) _ hlog)
    rw [logEntry_updateLog_same, hentry]
    rfl
  case records =>
    have htransponder : ((slotOf s i).transponder).getD 0 = x.transponder := by rw [transponder_of_slotFor hi]; rfl
    have hpassedRec : passed = .passing {
        number := x.number, slot := some i, transponder := x.transponder,
        competitor := (slotOf s i).competitor, instant := x.instant, flags := x.flags, peak := x.peak,
        peakChannel := x.peakChannel, hitCount := x.hitCount, lapCount := some count } := by
      show slotPassingRec p c i x x.flags = _
      unfold slotPassingRec competitorOf passingRec
      rw [show slotOf c i = slotOf u i from rfl, hlapped, hp]
      rfl
    have hlappedRec : lapped = .lap {
        slot := i, transponder := x.transponder, competitor := (slotOf s i).competitor,
        number := x.number, lapCount := count, lapTime := lap, bestLap := bestAfter, flags := if best then 1024 else 0 } := by
      show lapRec u i x.number lap (lapRecFlags best l.flags x.flags) = _
      unfold lapRec transponderOf
      dsimp only
      rw [hlapped, lapRecFlags_plain hlf hlm hxf hxm]
      dsimp only
      rw [htransponder]
      rfl
    rw [hreport, ← hpassedRec, ← hlappedRec]
    exact offerRecord_both (s := c) hfifo

/-! ## The first passing of a transponder at a LOCAL grant (R94, R97, R100) -/

theorem settleCounts_spares (s : State) : SparesRest s (settleCounts s) := ⟨rfl, rfl, rfl, rfl, rfl, rfl⟩

/-- A LOCAL grant as its work begins: the counts judged and the item out of the local passing queue. -/
def localBegun (rest : List LocalItem) (s : State) : State :=
  { beginGrant .loc s with gather := { s.gather with queue := rest } }

/-- With no closing that waits and the station RUNNING, the freed place stays free. -/
theorem popLocal_begun {x : LocalItem} {rest : List LocalItem} (hm : s.station.mode = .running) (he : s.gather.entries = [])
    (hq : s.gather.queue = x :: rest) : popLocal p (beginGrant .loc s) = localBegun rest s := by
  have hqueue : (beginGrant .loc s).gather.queue.tail = rest := by
    rw [show (beginGrant .loc s).gather.queue = x :: rest from hq]
    rfl
  have haccept : acceptClosing p (localBegun rest s) = localBegun rest s := by
    unfold acceptClosing
    rw [show (localBegun rest s).gather.entries = [] from he]
    exact ite_self _
  unfold popLocal
  rw [hqueue]
  show finishHalting (acceptClosing p (localBegun rest s)) = _
  rw [haccept]
  exact if_neg fun h => by
    rw [show (localBegun rest s).station.mode = .running from hm] at h
    exact nomatch h.1

/-- A LOCAL grant whose head is a passing processes it. -/
theorem exec_localGrant {x : LocalItem} {rest : List LocalItem} {n : Nat} (hc : s.station.conf = some p)
    (hh : s.station.haltDue = false) (hm : s.station.mode = .running) (hr : choice p s = some .loc) (he : s.gather.entries = [])
    (hq : s.gather.queue = x :: rest) (hn : x.number = some n) :
    exec .localGrant s = .next (settleCounts (processPassing p (loopPassing x n) (localBegun rest s))) := by
  have hwork : localWork p (beginGrant .loc s) = processPassing p (loopPassing x n) (localBegun rest s) := by
    unfold localWork
    rw [show (beginGrant .loc s).gather.queue = x :: rest from hq]
    show takeLocal p x (popLocal p (beginGrant .loc s)) = _
    rw [popLocal_begun hm he hq]
    unfold takeLocal
    rw [hn]
  have hrun : isRunning (processPassing p (loopPassing x n) (localBegun rest s)) = isRunning (localBegun rest s) :=
    isRunning_of_spares (processPassing_spares p _ _)
  refine congrArg _ ((grantTo_named localWork hc hh hr).trans ?_)
  rw [hwork]
  exact endGrant_running hrun

/-- In OPEN admission a transponder without a slot takes the lowest FREE slot. -/
theorem slotToProcess_free {n : Nat} {i : SlotNo} (ha : p.admission = .anyone) (h : slotFor n s = none)
    (hi : (slotOf s i).state = .free) (hl : ∀ j, j < i → (slotOf s j).state ≠ .free) :
    slotToProcess p n s = some (i, setSlot i (allocatedSlot n s.now) s) := by
  unfold slotToProcess
  rw [h, ha]
  show giveSlot n s = _
  unfold giveSlot
  rw [findFree_eq_some hi hl]

theorem touchSlot_allocated (n : Nat) (i : SlotNo) (s : State) :
    touchSlot i (setSlot i (allocatedSlot n s.now) s) = setSlot i (allocatedSlot n s.now) s := by
  unfold touchSlot
  rw [slotOf_setSlot_same]
  exact setSlot_setSlot _ _ _ _

/-- A list without entries of slot `i` keeps all of them at the removal of `i`'s. -/
theorem removeWatch_absent {i : SlotNo} (h : ∀ e ∈ s.table.watch, e.slot ≠ i) : removeWatch i s = s := by
  have hwatch : s.table.watch.filter (fun e => e.slot != i) = s.table.watch :=
    List.filter_eq_self.mpr fun e he => bne_iff_ne.mpr (h e he)
  exact congrArg (fun w => { s with table := { s.table with watch := w } }) hwatch

/-- The state in which the first passing `x` of its transponder has been given slot `i`, logged and counted. -/
def firstCounted (i : SlotNo) (x : NewPassing) (s : State) : State :=
  let b := logPassing i x x.flags (setSlot i (allocatedSlot x.transponder s.now) s)
  setSlot i (countedSlot x x.flags false (allocatedSlot x.transponder s.now)) b

theorem processPassing_first {x : NewPassing} {i : SlotNo} (hk : x.kind = .loop) (ha : p.arrangement = .single)
    (hadm : p.admission = .anyone) (hf : p.feeders = []) (hnone : slotFor x.transponder s = none)
    (hi : (slotOf s i).state = .free) (hl : ∀ j, j < i → (slotOf s j).state ≠ .free) (hw : ∀ e ∈ s.table.watch, e.slot ≠ i) :
    processPassing p x s = offerPassing x.number x.transponder x.instant x.flags
      (offerRecord (slotPassingRec p (firstCounted i x s) i x x.flags) (firstCounted i x s)) := by
  let u := setSlot i (allocatedSlot x.transponder s.now) s
  have hslot : slotOf u i = allocatedSlot x.transponder s.now := slotOf_setSlot_same _ _ _
  have hlast : (slotOf u i).last = none := by rw [hslot]; rfl
  have hbefore : beforeRepeat p i x u = u :=
    (beforeRepeat_unspanned (by rw [hk]; exact PassingKind.noConfusion) fun l h => nomatch hlast.symm.trans h).trans
      (touchSlot_allocated _ _ _)
  have hr : isRepeat p x (slotOf (beforeRepeat p i x u) i) = false := by
    rw [hbefore]
    exact isRepeat_first x hlast
  have hcount : countPassing p i x x.flags (logPassing i x x.flags u) = (firstCounted i x s, []) := by
    rw [countPassing_first (s := logPassing i x x.flags u) hlast]
    rw [show slotOf (logPassing i x x.flags u) i = allocatedSlot x.transponder s.now from hslot]
    rfl
  unfold processPassing
  rw [slotToProcess_free hadm hnone hi hl]
  show processInSlot p i x u = _
  rw [processInSlot_counted hr, hbefore, countAndPair_alone hf ha hcount, removeWatch_absent (s := firstCounted i x s) hw]
  rfl

/-- Settles O37: the LOCAL grant hands the passing to `processPassing`, which gives it the slot, logs, reports and offers it. -/
theorem localGrantProcessesAFirstPassing : Obligations.LocalGrantProcessesAFirstPassing := by
  intro p x rest n i notices s hc hh hm hr hq he hn ha hadm hf hlap hnone hfree hleast hwatch hlog hfifo hnotices hhigh hroom
  let y := loopPassing x n
  let u := localBegun rest s
  let c := firstCounted i y u
  let v := processPassing p y u
  have hv : v = offerPassing n x.transponder x.instant x.flags (offerRecord (slotPassingRec p c i y x.flags) c) :=
    processPassing_first (s := u) rfl ha hadm hf ((findSlot_congr _ s u rfl).trans hnone) hfree hleast hwatch
  have hqueue : c.line.queue = notices := hnotices
  obtain ⟨htable, hreport⟩ :=
    offerPassing_table n x.transponder x.instant x.flags (offerRecord (slotPassingRec p c i y x.flags) c)
  have hlogged := offerPassing_log (s := offerRecord (slotPassingRec p c i y x.flags) c) (by rw [← hqueue] at hroom; exact hroom)
    n x.transponder x.instant x.flags
  obtain ⟨hnotice, hline⟩ := offerPassing_line (s := offerRecord (slotPassingRec p c i y x.flags) c)
    (by rw [← hqueue] at hroom; exact hroom) (by rw [← hqueue] at hhigh; exact hhigh) n x.transponder x.instant x.flags
  rw [← hv] at htable hreport hlogged hnotice hline
  have hslots : v.table.slots = c.table.slots := (congrArg TableBlock.slots htable).trans rfl
  have hspares := processPassing_spares p y u
  refine ⟨settleCounts v, exec_localGrant hc hh hm hr he hq hn, ?frame, hspares.gather, fun j hj => ?others, ?slot, ?table,
    ?log, ?report, ?line, fun hs => hline hs⟩
  case frame =>
    rw [show (settleCounts v).gather = u.gather from hspares.gather]
    exact (hspares.trans (settleCounts_spares v)).frame
  case others =>
    rw [slotOf_congr (t := settleCounts v) hslots j]
    exact (slotOf_setSlot_other _ _ _ _ hj).trans (slotOf_setSlot_other _ _ _ _ hj)
  case slot =>
    rw [slotOf_congr (t := settleCounts v) hslots i]
    exact slotOf_setSlot_same _ _ _
  case table =>
    show (settleCounts v).table = _
    unfold settleCounts
    dsimp only
    rw [htable]
    rfl
  case log =>
    show v.log = _
    rw [hlogged]
    exact writeLog_reserved _ hlog
  case report =>
    have hrec : slotPassingRec p c i y x.flags = .passing {
        number := n, slot := some i, transponder := x.transponder, competitor := 0, instant := x.instant, flags := x.flags,
        peak := some x.peak, peakChannel := some x.peakChannel, hitCount := some x.hitCount, lapCount := some 0 } := by
      unfold slotPassingRec competitorOf passingRec
      rw [show slotOf c i = _ from slotOf_setSlot_same _ _ _, hlap]
      rfl
    show v.report.fifo = _
    rw [hreport, ← hrec]
    exact offerRecord_into (s := c) hfifo
  case line =>
    show v.line.queue = _
    rw [hnotice, show (offerRecord (slotPassingRec p c i y x.flags) c).line.queue = notices from hqueue]
    rfl

end Sys2Proof.Machine
end


section
/-! PROOFS. Sections 6.4 and 7.4: the TIMER grant of a due item that stands alone (R52, R101, R119, R122, R123). -/

namespace Sys2Proof.Machine

variable {p : Params} {s t : State}

/-! ## The issue of a SECTOR record (R119) -/

theorem issueSector_slot (p : Params) (r : SectorRec) (s : State) :
    slotOf (issueSector p r s) r.slot = slotAfterSector p r (slotOf s r.slot) :=
  (slotOf_congr (s := putSector p r s) rfl _).trans (slotOf_setSlot_same _ _ _)

theorem issueSector_other (p : Params) {r : SectorRec} {j : SlotNo} (s : State) (h : j ≠ r.slot) :
    slotOf (issueSector p r s) j = slotOf s j :=
  (slotOf_congr (s := putSector p r s) rfl _).trans (slotOf_setSlot_other _ _ _ _ h)

theorem logEntry_updated {n : Nat} {f : LogEntry → LogEntry} {x : LogEntry} (h : logEntry s n = some x) :
    logEntry (updateLog n f s) n = some (f x) := by
  rw [logEntry_updateLog_same, h]
  rfl

theorem issueSector_entry (p : Params) {r : SectorRec} {x : LogEntry} (h : logEntry s r.number = some x) :
    logEntry (issueSector p r s) r.number = some { x with sector := some (sectorResult r) } :=
  logEntry_updated (s := setSlot r.slot (slotAfterSector p r (slotOf s r.slot)) s) h

theorem issueSector_fifo (p : Params) (r : SectorRec) (h : s.report.fifo.length < 128) :
    (issueSector p r s).report.fifo = s.report.fifo ++ [{ issued := s.now, body := .sector r }] :=
  offerRecord_into (s := putSector p r s) h

/-! ## The grant of a lone due item (R101) -/

/-- A TIMER grant with one item in its queue takes it. -/
theorem exec_timerGrant {d : DueItem} (hc : s.station.conf = some p) (hh : s.station.haltDue = false)
    (hr : choice p s = some .timer) (hd : dueItems s = [d])
    (hrun : isRunning (takeDue p d (beginGrant .timer s)) = isRunning s) :
    exec .timerGrant s = .next (settleCounts (takeDue p d (beginGrant .timer s))) := by
  have hwork : timerWork p (beginGrant .timer s) = takeDue p d (beginGrant .timer s) := by
    unfold timerWork
    rw [show dueItems (beginGrant .timer s) = [d] from hd]
    rfl
  refine congrArg _ ((grantTo_named timerWork hc hh hr).trans ?_)
  rw [hwork]
  exact endGrant_running hrun

/-- The state in which a TIMER grant has issued `r` for its only item and taken the item out of the lists. -/
def sectorEnded (p : Params) (r : SectorRec) (s : State) : State :=
  let v := issueSector p r (beginGrant .timer s)
  settleCounts { v with table := { v.table with pending := [], settle := [], trap := [] } }

theorem sectorEnded_frame (p : Params) (r : SectorRec) (s : State) :
    sectorEnded p r s = { s with
        table := (sectorEnded p r s).table, log := (sectorEnded p r s).log, report := (sectorEnded p r s).report } ∧
      (sectorEnded p r s).table = { s.table with
        slots := (sectorEnded p r s).table.slots, pending := [], settle := [], trap := [],
        bypass := (sectorEnded p r s).table.bypass } := ⟨rfl, rfl⟩

theorem sectorEnded_slot (p : Params) (r : SectorRec) (s : State) :
    slotOf (sectorEnded p r s) r.slot = slotAfterSector p r (slotOf s r.slot) :=
  (slotOf_congr (s := issueSector p r (beginGrant .timer s)) rfl _).trans (issueSector_slot p r (beginGrant .timer s))

theorem sectorEnded_other (p : Params) {r : SectorRec} {j : SlotNo} (s : State) (h : j ≠ r.slot) :
    slotOf (sectorEnded p r s) j = slotOf s j :=
  (slotOf_congr (s := issueSector p r (beginGrant .timer s)) rfl _).trans (issueSector_other p (beginGrant .timer s) h)

theorem sectorEnded_entry (p : Params) {r : SectorRec} {x : LogEntry} (h : logEntry s r.number = some x) :
    logEntry (sectorEnded p r s) r.number = some { x with sector := some (sectorResult r) } :=
  (logEntry_congr (s := issueSector p r (beginGrant .timer s)) rfl _).trans (issueSector_entry (s := beginGrant .timer s) p h)

theorem sectorEnded_fifo (p : Params) (r : SectorRec) (h : s.report.fifo.length < 128) :
    (sectorEnded p r s).report.fifo = s.report.fifo ++ [{ issued := s.now, body := .sector r }] :=
  issueSector_fifo (s := beginGrant .timer s) p r h

/-- The lists with their one pending sector or settle entry taken out. -/
theorem emptied_lists {a : List PendingSector} {b : List SettleEntry} (ha : a = []) (hb : b = []) (ht : s.table.trap = []) :
    { s with table := { s.table with pending := a, settle := b } } =
      { s with table := { s.table with pending := [], settle := [], trap := [] } } := by
  show { s with table := { s.table with pending := a, settle := b, trap := s.table.trap } } = _
  rw [ha, hb, ht]

theorem emptied_table {b : TableBlock} (hp : b.pending = []) (hs : b.settle = []) (y : PerRequester) :
    { b with trap := [], bypass := y } = { b with pending := [], settle := [], trap := [], bypass := y } := by
  show { b with pending := b.pending, settle := b.settle, trap := [], bypass := y } = _
  rw [hp, hs]

theorem filter_singleton_slot {α : Type} {slot : α → SlotNo} {l : List α} {e : α} (h : l = [e]) :
    l.filter (fun y => slot y != slot e) = [] := by
  rw [h]
  simp

theorem exec_timerGrant_pending {e : PendingSector} (hc : s.station.conf = some p) (hh : s.station.haltDue = false)
    (hr : choice p s = some .timer) (hw : s.table.watch = []) (he : s.table.pending = [e]) (hd : e.due = true)
    (hs : s.table.settle = []) (ht : s.table.trap = []) :
    exec .timerGrant s = .next (sectorEnded p (pendingEndRec s e .noFeeder) s) := by
  have hitems : dueItems s = [{ kind := .pending, slot := e.slot, time := e.expiry }] := by
    unfold dueItems
    rw [he, hs, hw, ht, List.filter_cons_of_pos hd]
    rfl
  have hof : pendingOf (beginGrant .timer s) e.slot = some e := by
    unfold pendingOf
    rw [show (beginGrant .timer s).table.pending = [e] from he]
    exact List.find?_cons_of_pos (beq_self_eq_true _)
  let v := issueSector p (pendingEndRec s e .noFeeder) (beginGrant .timer s)
  have htake : expirePending p e.slot (beginGrant .timer s) = removePending e.slot v := by
    unfold expirePending
    rw [hof]
    rfl
  have hrun := isRunning_of_spares (expirePending_spares p e.slot (beginGrant .timer s))
  refine (exec_timerGrant hc hh hr hitems hrun).trans (congrArg (fun u => Host.Outcome.next (settleCounts u)) ?_)
  exact htake.trans (emptied_lists (s := v) (filter_singleton_slot (slot := PendingSector.slot) (l := v.table.pending) he) hs ht)

theorem exec_timerGrant_settle {e : SettleEntry} (hc : s.station.conf = some p) (hh : s.station.haltDue = false)
    (hr : choice p s = some .timer) (hw : s.table.watch = []) (he : s.table.settle = [e]) (hd : e.due = true)
    (hp : s.table.pending = []) (ht : s.table.trap = []) :
    exec .timerGrant s = .next (sectorEnded p (settleRec p s e) s) := by
  have hitems : dueItems s = [{ kind := .settle, slot := e.slot, time := e.expiry }] := by
    unfold dueItems
    rw [he, hp, hw, ht, List.filter_cons_of_pos hd]
    rfl
  have hof : settleOf (beginGrant .timer s) e.slot = some e := by
    unfold settleOf
    rw [show (beginGrant .timer s).table.settle = [e] from he]
    exact List.find?_cons_of_pos (beq_self_eq_true _)
  let v := issueSector p (settleRec p s e) (beginGrant .timer s)
  have htake : expireSettle p e.slot (beginGrant .timer s) = removeSettle e.slot v := by
    unfold expireSettle
    rw [hof]
    rfl
  have hrun := isRunning_of_spares (expireSettle_spares p e.slot (beginGrant .timer s))
  refine (exec_timerGrant hc hh hr hitems hrun).trans (congrArg (fun u => Host.Outcome.next (settleCounts u)) ?_)
  exact htake.trans (emptied_lists (s := v) hp (filter_singleton_slot (slot := SettleEntry.slot) (l := v.table.settle) he) ht)

theorem exec_timerGrant_trap {w : TrapWait} (hc : s.station.conf = some p) (hh : s.station.haltDue = false)
    (hr : choice p s = some .timer) (hw : s.table.watch = []) (he : s.table.trap = [w]) (hd : w.due = true)
    (hp : s.table.pending = []) (hs : s.table.settle = []) :
    exec .timerGrant s = .next (settleCounts
      (removeTrap w.slot (offerRecord (.speed (loneRecord s w.slot (heldItem w))) (beginGrant .timer s)))) := by
  have hitems : dueItems s = [{ kind := .trap, slot := w.slot, time := w.expiry }] := by
    unfold dueItems
    rw [hp, hs, hw, he, List.filter_cons_of_pos hd]
    rfl
  have htake : expireTrap w.slot (beginGrant .timer s) =
      removeTrap w.slot (offerRecord (.speed (loneRecord s w.slot (heldItem w))) (beginGrant .timer s)) := by
    unfold expireTrap
    rw [trapOf_singleton (s := beginGrant .timer s) he]
    rfl
  have hrun := isRunning_of_spares (expireTrap_spares w.slot (beginGrant .timer s))
  refine (exec_timerGrant hc hh hr hitems hrun).trans (congrArg (fun u => Host.Outcome.next (settleCounts u)) ?_)
  exact htake

/-! ## The record of a settle entry (R123) -/

theorem settleRec_names (p : Params) (s : State) (e : SettleEntry) :
    settleRec p s e = { settleRec p s e with
      slot := e.slot, transponder := ((slotOf s e.slot).transponder).getD 0, competitor := (slotOf s e.slot).competitor,
      number := e.number, instant := e.instant, tag := some e.tag } := by
  have hrecomputed : ∀ u soft, recomputedRec p s e u soft = { recomputedRec p s e u soft with
      slot := e.slot, transponder := ((slotOf s e.slot).transponder).getD 0, competitor := (slotOf s e.slot).competitor,
      number := e.number, instant := e.instant, tag := some e.tag } := fun u soft => by
    unfold recomputedRec
    dsimp only
    split <;> rfl
  unfold settleRec
  split
  · split
    · exact hrecomputed _ _
    · rfl
  · exact hrecomputed _ _
  · rfl
  · rfl

theorem inRange_iff (p : Params) (v : Int) : inRange p v = true ↔ 0 < v ∧ v ≤ (p.maxSector * 1000 : Nat) := by
  unfold inRange
  simp only [Bool.and_eq_true, decide_eq_true_eq]

theorem settleRec_held {e : SettleEntry} (hh : e.hold = .held) (hr : e.retimed = false) :
    settleRec p s e = pairedRec s e.slot e.number e.instant e.tag e.feederInstant e.sector e.flags := by
  unfold settleRec
  rw [hh, hr]
  rfl

theorem settleRec_recomputed {e : SettleEntry} {u : Time} {soft : Bool}
    (h : (e.hold = .held ∧ e.retimed = true ∧ u = e.feederInstant ∧ soft = hasFlag e.flags .clockSoft) ∨
      (∃ c, e.hold = .retimed (some u) c ∧ soft = decide (c = .soft))) :
    settleRec p s e = recomputedRec p s e u soft := by
  unfold settleRec
  obtain ⟨hh, hr, rfl, rfl⟩ | ⟨c, hh, rfl⟩ := h
  · rw [hh, hr]
    rfl
  · rw [hh]
    cases c <;> rfl

theorem settleRec_withdrawn {e : SettleEntry} (hh : e.hold = .withdrawn) : settleRec p s e =
    unpairedRec s e.slot e.number e.instant (some e.tag) (some e.feederInstant) .withdrawn (unstatedFlags e.number e.flags) := by
  unfold settleRec
  rw [hh]

/-- Settles O39: each lone item is taken by the operation of its list, and the record is the one of R119, R122, R123 or R52. -/
theorem timerGrantEndsThePendingSector : Obligations.TimerGrantEndsThePendingSector := by
  intro p s hc hh hr hw hfifo granted
  refine ⟨fun e he hd hs ht => ?pending, fun e he hd hp ht => ?settle, fun w he hd hp hs => ?trap⟩
  case pending =>
    let r := pendingEndRec s e .noFeeder
    exact ⟨sectorEnded p r s, ⟨exec_timerGrant_pending hc hh hr hw he hd hs ht, sectorEnded_frame p r s⟩,
      fun j hj => sectorEnded_other (r := r) p s hj, sectorEnded_slot p r s,
      fun x hx => sectorEnded_entry (r := r) p hx, sectorEnded_fifo p r hfifo⟩
  case settle =>
    let r := settleRec p s e
    have hnames : r = _ := settleRec_names p s e
    have hslot : r.slot = e.slot := congrArg SectorRec.slot hnames
    have hnumber : r.number = e.number := congrArg SectorRec.number hnames
    refine ⟨sectorEnded p r s, r, ⟨exec_timerGrant_settle hc hh hr hw he hd hp ht, sectorEnded_frame p r s⟩,
      fun j hj => sectorEnded_other p s (hslot ▸ hj), ?_, sectorEnded_fifo p r hfifo, hnames, fun x hx => ?_, fun hold hret => ?held,
      fun u soft h => ?recomputed, fun hold => ?withdrawn⟩
    · rw [← hslot]
      exact sectorEnded_slot p r s
    · rw [← hnumber] at hx ⊢
      exact sectorEnded_entry p hx
    case held =>
      rw [show r = _ from settleRec_held hold hret]
      exact ⟨rfl, rfl, rfl, rfl, rfl⟩
    case recomputed =>
      intro v
      have hrec : r = recomputedRec p s e u soft := settleRec_recomputed h
      unfold recomputedRec at hrec
      by_cases hin : inRange p v = true
      · rw [show r = _ from hrec.trans (if_pos hin)]
        obtain ⟨hpos, hmax⟩ := (inRange_iff p v).mp hin
        exact ⟨rfl, fun _ _ => ⟨rfl, rfl, rfl, rfl⟩, fun hout => by omega⟩
      · rw [show r = _ from hrec.trans (if_neg hin)]
        exact ⟨rfl, fun hpos hmax => absurd ((inRange_iff p v).mpr ⟨hpos, hmax⟩) hin, fun _ => ⟨rfl, rfl, rfl, rfl⟩⟩
    case withdrawn =>
      rw [show r = _ from settleRec_withdrawn hold]
      exact ⟨rfl, rfl, rfl, rfl⟩
  case trap =>
    let u := offerRecord (.speed (loneRecord s w.slot (heldItem w))) (beginGrant .timer s)
    refine ⟨settleCounts (removeTrap w.slot u), ⟨exec_timerGrant_trap hc hh hr hw he hd hp hs, rfl, ?_⟩, rfl, rfl,
      offerRecord_into (s := beginGrant .timer s) hfifo⟩
    rw [removeTrap_singleton (s := u) he]
    exact emptied_table hp hs _

end Sys2Proof.Machine
end


section
/-! PROOFS. Sections 7.3 and 7.5: the LINE grant of a feeder passing that its slot keeps, and of a REVISE item at each of its
places (R121, R124 to R126). -/

namespace Sys2Proof.Machine

variable {p : Params} {s : State}

/-! ## A feeder record that arms no watch (R136) -/

/-- Below the forecast threshold, a slot without a watch arms none: only TIMER's count is settled. -/
theorem armWatch_unarmed {i : SlotNo} (hw : ∀ e ∈ s.table.watch, e.slot ≠ i)
    (hc : (slotOf s i).confidence < p.forecastThreshold) : armWatch p i s = settleTimer s := by
  unfold armWatch
  rw [removeWatch_absent hw]
  unfold armFresh
  split
  · rfl
  · split
    · rfl
    · exact if_neg (Nat.not_le.mpr hc)

/-- The state in which slot `i` keeps `f` as its feeder record. -/
def recordKept (i : SlotNo) (f : FeederRecord) (s : State) : State :=
  settleTimer (setSlot i { slotOf s i with state := .active, lastActivity := some s.now, spent := none, feeder := some f } s)

theorem takeFeederPassing_kept {n : Nat} {f : FeederRecord} {i : SlotNo} (hf : hasFlag f.flags .repeated = false)
    (hi : slotFor n s = some i) (hp : ∀ e ∈ s.table.pending, e.slot ≠ i) (hw : ∀ e ∈ s.table.watch, e.slot ≠ i)
    (hl : ∀ l u, (slotOf s i).last = some l → f.instant = some u → isBefore u l.instant = false)
    (hc : (slotOf s i).confidence < p.forecastThreshold) : takeFeederPassing p n f s = recordKept i f s := by
  have hset : setSpent i none (setFeeder i (some f) (touchSlot i s)) =
      setSlot i { slotOf s i with state := .active, lastActivity := some s.now, spent := none, feeder := some f } s := by
    unfold setSpent setFeeder
    rw [slotOf_setSlot_same, touchSlot_slot]
    unfold touchSlot
    rw [setSlot_setSlot, setSlot_setSlot]
  rw [takeFeederPassing_record hf hi hp hl]
  unfold becomeRecord
  rw [hset]
  exact armWatch_unarmed (s := setSlot i _ s) hw (by rw [slotOf_setSlot_same]; exact hc)

/-! ## The places of a revision (R124) -/

/-- An item that is no passing is a revision, with the action its body names. -/
theorem takeIntake_revision {x : IntakeItem} (h : x.body = .withdraw ∨ ∃ u c, x.body = .retime u c) :
    ∃ r, (∀ y, takeIntake p x y = takeFeederRevision p x.tag x.transponder r y) ∧
      (x.body = .withdraw → r = .withdraw) ∧ (∀ u c, x.body = .retime u c → r = .retime u c) := by
  obtain hb | ⟨u, c, hb⟩ := h
  · refine ⟨.withdraw, fun y => ?_, fun _ => rfl, fun u c h => ?_⟩
    · unfold takeIntake
      rw [hb]
    · cases hb.symm.trans h
  · refine ⟨.retime u c, fun y => ?_, fun h => ?_, fun v d h => ?_⟩
    · unfold takeIntake
      rw [hb]
    · cases hb.symm.trans h
    · cases hb.symm.trans h
      rfl

theorem carriesTag_iff {tag : Tag} {f : Option FeederRecord} : carriesTag tag f = true ↔ ∃ y, f = some y ∧ y.tag = tag := by
  unfold carriesTag
  cases f with
  | none => simp
  | some y => simp

theorem reviseRecord_other {i : SlotNo} {tag : Tag} (r : FeederRevision) (h : ∀ f, (slotOf s i).feeder = some f → f.tag ≠ tag) :
    reviseRecord p i tag r s = s :=
  if_neg fun hc => by
    obtain ⟨y, hy, ht⟩ := carriesTag_iff.mp hc
    exact h y hy ht

theorem reviseSpent_other {i : SlotNo} {tag : Tag} (r : FeederRevision) (h : ∀ f, (slotOf s i).spent = some f → f.tag ≠ tag) :
    reviseSpent i tag r s = s :=
  if_neg fun hc => by
    obtain ⟨y, hy, ht⟩ := carriesTag_iff.mp hc
    exact h y hy ht

theorem reviseSettle_other {i : SlotNo} {tag : Tag} (r : FeederRevision) (h : ∀ e ∈ s.table.settle, e.slot = i → e.tag ≠ tag) :
    reviseSettle i tag r s = s := by
  have hmap : s.table.settle.map (fun e => if e.slot = i ∧ e.tag = tag then { e with hold := holdCause r } else e) =
      s.table.settle := by
    refine (List.map_congr_left fun e he => ?_).trans (List.map_id _)
    exact if_neg fun hc => h e he hc.1 hc.2
  exact congrArg (fun l => { s with table := { s.table with settle := l } }) hmap

/-- The one settle entry of the slot takes the cause of the revision. -/
theorem reviseSettle_held {i : SlotNo} {tag : Tag} (r : FeederRevision) {before after : List SettleEntry} {e : SettleEntry}
    (hl : s.table.settle = before ++ e :: after) (hi : e.slot = i) (ht : e.tag = tag) (h : ∀ y ∈ before ++ after, y.slot ≠ i) :
    reviseSettle i tag r s = { s with table := { s.table with settle := before ++ { e with hold := holdCause r } :: after } } := by
  have hmap : s.table.settle.map (fun e => if e.slot = i ∧ e.tag = tag then { e with hold := holdCause r } else e) =
      before ++ { e with hold := holdCause r } :: after := by
    rw [hl, map_one e fun y hy => if_neg fun hc => h y hy hc.1, if_pos ⟨hi, ht⟩]
  exact congrArg (fun l => { s with table := { s.table with settle := l } }) hmap

theorem reviseIssued_other {i : SlotNo} {tag : Tag} (r : FeederRevision)
    (h : ∀ z, ¬ ((slotOf s i).issued = some z ∧ z.tag = some tag)) : reviseIssued p i tag r s = s := by
  unfold reviseIssued
  split
  · rfl
  next z hz => exact if_neg fun ht => h z ⟨hz, ht⟩

/-- The last issued sector of the tag is amended with the log entry of its passing. -/
theorem reviseIssued_stands {i : SlotNo} {tag : Tag} (r : FeederRevision) {z : IssuedSector} {e : LogEntry}
    (hz : (slotOf s i).issued = some z) (ht : z.tag = some tag) (he : logEntry s z.number = some e) (hw : e.withdrawn = false) :
    reviseIssued p i tag r s = amendIssued p i z e r s := by
  unfold reviseIssued
  rw [hz]
  dsimp only
  rw [if_pos ht, he]
  dsimp only
  rw [hw]
  rfl

/-- A revision that no spent feeder carries acts on feeder record, settle entry and last issued sector. -/
theorem takeFeederRevision_unspent {n : Nat} {i : SlotNo} {tag : Tag} (r : FeederRevision) (hi : slotFor n s = some i)
    (hs : ∀ f, (slotOf (reviseRecord p i tag r s) i).spent = some f → f.tag ≠ tag) :
    takeFeederRevision p tag n r s = reviseIssued p i tag r (reviseSettle i tag r (reviseRecord p i tag r s)) := by
  unfold takeFeederRevision
  rw [hi]
  dsimp only
  rw [reviseSpent_other r hs]

/-- The feeder record of the tag is revised in its slot. -/
theorem reviseRecord_held {i : SlotNo} {tag : Tag} (r : FeederRevision) {f : FeederRecord} (hf : (slotOf s i).feeder = some f)
    (ht : f.tag = tag) (hc : (slotOf s i).confidence < p.forecastThreshold) (hw : ∀ e ∈ s.table.watch, e.slot ≠ i) :
    reviseRecord p i tag r s = settleTimer (setSlot i { slotOf s i with feeder := reviseFeeder f r } s) := by
  unfold reviseRecord
  rw [if_pos (carriesTag_iff.mpr ⟨f, hf, ht⟩), hf]
  exact armWatch_unarmed (s := setSlot i _ s) hw (by rw [slotOf_setSlot_same]; exact hc)

/-- A revision whose tag the feeder record alone carries. -/
theorem takeFeederRevision_feeder {n : Nat} {i : SlotNo} {tag : Tag} (r : FeederRevision) {f : FeederRecord}
    (hi : slotFor n s = some i) (hspent : ∀ f, (slotOf s i).spent = some f → f.tag ≠ tag)
    (hf : (slotOf s i).feeder = some f) (ht : f.tag = tag) (hc : (slotOf s i).confidence < p.forecastThreshold)
    (hw : ∀ e ∈ s.table.watch, e.slot ≠ i) (hsettle : ∀ e ∈ s.table.settle, e.slot = i → e.tag ≠ tag)
    (hissued : ∀ z, ¬ ((slotOf s i).issued = some z ∧ z.tag = some tag)) :
    takeFeederRevision p tag n r s = settleTimer (setSlot i { slotOf s i with feeder := reviseFeeder f r } s) := by
  let v := settleTimer (setSlot i { slotOf s i with feeder := reviseFeeder f r } s)
  have hrecord : reviseRecord p i tag r s = v := reviseRecord_held r hf ht hc hw
  have hslot : slotOf v i = { slotOf s i with feeder := reviseFeeder f r } := slotOf_setSlot_same _ _ _
  rw [takeFeederRevision_unspent r hi (by rw [hrecord, hslot]; exact hspent), hrecord, reviseSettle_other (s := v) r hsettle]
  exact reviseIssued_other r (by rw [hslot]; exact hissued)

/-- A revision whose tag the settle entry of the slot alone carries. -/
theorem takeFeederRevision_settle {n : Nat} {i : SlotNo} {tag : Tag} (r : FeederRevision) {before after : List SettleEntry}
    {e : SettleEntry} (hi : slotFor n s = some i) (hspent : ∀ f, (slotOf s i).spent = some f → f.tag ≠ tag)
    (hfeeder : ∀ f, (slotOf s i).feeder = some f → f.tag ≠ tag) (hl : s.table.settle = before ++ e :: after) (he : e.slot = i)
    (ht : e.tag = tag) (hothers : ∀ y ∈ before ++ after, y.slot ≠ i)
    (hissued : ∀ z, ¬ ((slotOf s i).issued = some z ∧ z.tag = some tag)) :
    takeFeederRevision p tag n r s =
      { s with table := { s.table with settle := before ++ { e with hold := holdCause r } :: after } } := by
  have hrecord : reviseRecord p i tag r s = s := reviseRecord_other r hfeeder
  rw [takeFeederRevision_unspent r hi (by rw [hrecord]; exact hspent), hrecord, reviseSettle_held r hl he ht hothers]
  exact reviseIssued_other r hissued

/-- A revision whose tag the last issued sector alone carries. -/
theorem takeFeederRevision_issued {n : Nat} {i : SlotNo} {tag : Tag} (r : FeederRevision) {z : IssuedSector} {e : LogEntry}
    (hi : slotFor n s = some i) (hspent : ∀ f, (slotOf s i).spent = some f → f.tag ≠ tag)
    (hfeeder : ∀ f, (slotOf s i).feeder = some f → f.tag ≠ tag) (hsettle : ∀ e ∈ s.table.settle, e.slot = i → e.tag ≠ tag)
    (hz : (slotOf s i).issued = some z) (ht : z.tag = some tag) (he : logEntry s z.number = some e) (hw : e.withdrawn = false) :
    takeFeederRevision p tag n r s = amendIssued p i z e r s := by
  have hrecord : reviseRecord p i tag r s = s := reviseRecord_other r hfeeder
  rw [takeFeederRevision_unspent r hi (by rw [hrecord]; exact hspent), hrecord, reviseSettle_other r hsettle]
  exact reviseIssued_stands r hz ht he hw

/-! ## The last issued sector amended (R126) -/

theorem clock_soft_eq (c : ClockFlag) : (c == .soft) = decide (c = .soft) := by cases c <;> rfl

/-- A WITHDRAW takes a value away, and leaves a sector without one. -/
theorem amendIssued_withdraw (i : SlotNo) (z : IssuedSector) (e : LogEntry) (s : State) :
    (z.value ≠ none → amendIssued p i z e .withdraw s = amendSector i z none .withdrawn (unstatedFlags z.number z.flags) s) ∧
      (z.value = none → amendIssued p i z e .withdraw s = s) := by
  unfold amendIssued
  exact ⟨fun h => if_pos (Option.isSome_iff_ne_none.mpr h), fun h => if_neg (by rw [h]; exact Bool.false_ne_true)⟩

/-- A RETIME in range gives the value it recomputes. -/
theorem amendIssued_retime_in {i : SlotNo} {z : IssuedSector} {e : LogEntry} {u : Time} (c : ClockFlag) (s : State)
    (h0 : 0 < timeDiff e.instant u) (h1 : timeDiff e.instant u ≤ (p.maxSector * 1000 : Nat)) :
    (z.value ≠ some (timeDiff e.instant u).toNat →
      amendIssued p i z e (.retime (some u) c) s = amendSector i z (some (timeDiff e.instant u).toNat) .revised
        (sectorFlags (decide (timeDiff e.instant u < (p.minSector * 1000 : Nat))) (decide (c = .soft))
          (hasFlag z.flags .forecast)) s) ∧
      (z.value = some (timeDiff e.instant u).toNat → amendIssued p i z e (.retime (some u) c) s = s) := by
  have hin : amendIssued p i z e (.retime (some u) c) s = _ := if_pos ((inRange_iff p _).mpr ⟨h0, h1⟩)
  rw [hin, clock_soft_eq]
  exact ⟨fun h => if_neg h, fun h => if_pos h⟩

/-- A RETIME out of range takes the value away. -/
theorem amendIssued_retime_out {i : SlotNo} {z : IssuedSector} {e : LogEntry} {u : Time} (c : ClockFlag) (s : State)
    (h : timeDiff e.instant u ≤ 0 ∨ (p.maxSector * 1000 : Nat) < timeDiff e.instant u) :
    (z.value ≠ none → amendIssued p i z e (.retime (some u) c) s =
      amendSector i z none .revisedOut (unstatedFlags z.number z.flags) s) ∧
      (z.value = none → amendIssued p i z e (.retime (some u) c) s = s) := by
  have hout : amendIssued p i z e (.retime (some u) c) s = _ := if_neg fun hin => by
    have hb := (inRange_iff p _).mp hin
    omega
  rw [hout]
  exact ⟨fun h => if_neg fun hn => h (Option.isNone_iff_eq_none.mp hn), fun h => if_pos (Option.isNone_iff_eq_none.mpr h)⟩

/-! ## The grant -/

/-- What a LINE grant leaves alone. -/
def LineGranted (rest : List IntakeItem) (s t : State) : Prop :=
  exec .lineGrant s = .next t ∧ t = { s with line := { s.line with intake := rest }, table := t.table, log := t.log, report := t.report } ∧
    t.table = { s.table with slots := t.table.slots, settle := t.table.settle, bypass := t.table.bypass }

/-- A LINE grant whose work changes slots, settle entries, counts, log and report port alone. -/
theorem lineGranted_of {x : IntakeItem} {rest : List IntakeItem} {v : State} (hc : s.station.conf = some p)
    (hh : s.station.haltDue = false) (hr : choice p s = some .line) (hq : s.line.intake = x :: rest)
    (hv : takeIntake p x (lineBegun rest s) = v) (hline : v.line = { s.line with intake := rest })
    (htable : v.table = { s.table with slots := v.table.slots, settle := v.table.settle, bypass := v.table.bypass }) :
    LineGranted rest s (settleCounts v) := by
  have hspares : SparesRest (lineBegun rest s) (settleCounts v) := by
    rw [← hv]
    exact (takeIntake_spares p x (lineBegun rest s)).trans (settleCounts_spares _)
  refine ⟨by rw [exec_lineGrant hc hh hr hq, hv], hspares.frame.trans ?_,
    (congrArg (fun b => { b with bypass := (settleCounts v).table.bypass }) htable).trans rfl⟩
  rw [show (settleCounts v).line = { s.line with intake := rest } from hline]
  rfl

/-- A LINE grant whose work changes slots, settle entries and counts alone. -/
theorem lineGranted_slots {x : IntakeItem} {rest : List IntakeItem} {v : State} (hc : s.station.conf = some p)
    (hh : s.station.haltDue = false) (hr : choice p s = some .line) (hq : s.line.intake = x :: rest)
    (hv : takeIntake p x (lineBegun rest s) = v)
    (hframe : v = { lineBegun rest s with table := { s.table with
      slots := v.table.slots, settle := v.table.settle, bypass := v.table.bypass } }) :
    ∃ t, LineGranted rest s t ∧ (t.log = s.log ∧ t.report = s.report) ∧ t.table.settle = v.table.settle ∧
      t.table.slots = v.table.slots :=
  ⟨settleCounts v,
    lineGranted_of hc hh hr hq hv ((congrArg State.line hframe).trans rfl) ((congrArg State.table hframe).trans rfl),
    ⟨(congrArg State.log hframe).trans rfl, (congrArg State.report hframe).trans rfl⟩, rfl, rfl⟩

/-- The slot amended, its log entry and its AMEND record (R126). -/
theorem amendSector_effect {i : SlotNo} {z : IssuedSector} {e : LogEntry} (v : Option Nat) (c : Reason) (w : Flags)
    (he : logEntry s z.number = some e) (hf : s.report.fifo.length < 128) :
    slotOf (amendSector i z v c w s) i = { slotOf s i with issued := some { z with value := v, flags := w } } ∧
      (∀ j, j ≠ i → slotOf (amendSector i z v c w s) j = slotOf s j) ∧
      logEntry (amendSector i z v c w s) z.number = some { e with sector := some (amendedResult z.tag v c w) } ∧
      (amendSector i z v c w s).report.fifo =
        s.report.fifo ++ [{ issued := s.now, body := amendRec s i z.number (.sector z.tag v c w) }] := by
  let u := setSlot i { slotOf s i with issued := some { z with value := v, flags := w } } s
  have hslots : (amendSector i z v c w s).table.slots = u.table.slots := rfl
  refine ⟨(slotOf_congr hslots i).trans (slotOf_setSlot_same _ _ _),
    fun j hj => (slotOf_congr hslots j).trans (slotOf_setSlot_other _ _ _ _ hj), ?_, offerRecord_into (s := updateLog z.number _ u) hf⟩
  exact logEntry_updated (s := u) he

/-- An amendment changes slots, log and report port alone. -/
theorem amendSector_frame (i : SlotNo) (z : IssuedSector) (v : Option Nat) (c : Reason) (w : Flags) (s : State) :
    (amendSector i z v c w s).line = s.line ∧
      (amendSector i z v c w s).table = { s.table with slots := (amendSector i z v c w s).table.slots } := ⟨rfl, rfl⟩

/-- `t` is `s` after a LINE grant that amended the last issued sector `z` of slot `i` to `v`. -/
def LineAmended (rest : List IntakeItem) (i : SlotNo) (z : IssuedSector) (tag : Tag) (e : LogEntry) (v : Option Nat) (c : Reason)
    (w : Flags) (s t : State) : Prop :=
  LineGranted rest s t ∧ t.table.settle = s.table.settle ∧ (∀ j, j ≠ i → slotOf t j = slotOf s j) ∧
    slotOf t i = { slotOf s i with issued := some { z with value := v, flags := w } } ∧
    t.report.fifo = s.report.fifo ++
      [{ issued := s.now,
         body := .amend { slot := some i, transponder := ((slotOf s i).transponder).getD 0,
                          competitor := (slotOf s i).competitor, number := z.number,
                          what := .sector (some tag) v c w } }] ∧
    ∃ y, logEntry t z.number = some { e with sector := some y } ∧ y.value = v ∧ y.reason = some c ∧ y.tag = some tag ∧
      y.flags = w ∧ y.amended = true

/-- A LINE grant that amends the last issued sector. -/
theorem lineGrant_amended {x : IntakeItem} {rest : List IntakeItem} {i : SlotNo} {z : IssuedSector} {e : LogEntry}
    {v : Option Nat} {c : Reason} {w : Flags} (hc : s.station.conf = some p) (hh : s.station.haltDue = false)
    (hr : choice p s = some .line) (hq : s.line.intake = x :: rest)
    (hv : takeIntake p x (lineBegun rest s) = amendSector i z v c w (lineBegun rest s))
    (ht : z.tag = some x.tag) (he : logEntry s z.number = some e) (hf : s.report.fifo.length < 128) :
    ∃ t, LineAmended rest i z x.tag e v c w s t := by
  obtain ⟨hslot, hothers, hentry, hfifo⟩ := amendSector_effect (s := lineBegun rest s) v c w he hf
  obtain ⟨hline, htable⟩ := amendSector_frame i z v c w (lineBegun rest s)
  generalize amendSector i z v c w (lineBegun rest s) = y at *
  rw [ht] at hfifo
  refine ⟨settleCounts y, lineGranted_of hc hh hr hq hv hline (htable.trans ?_), ?_, hothers, hslot, hfifo,
    _, hentry, rfl, rfl, ht, rfl, rfl⟩
  · rw [htable]
    rfl
  · exact (congrArg TableBlock.settle htable).trans rfl

/-- Settles O38: the passing becomes the feeder record, and the revision acts at the place that carries its tag. -/
theorem lineGrantKeepsTheFeederRecord : Obligations.LineGrantKeepsTheFeederRecord := by
  intro p x rest s hc hh hr hq granted silent revision
  let u := lineBegun rest s
  have hfor : slotFor x.transponder u = slotFor x.transponder s := findSlot_congr _ s u rfl
  refine ⟨fun i instant clock w hx hw hi hp hwatch hl hconf => ?passing, fun hrev hnone => ?noSlot,
    fun i hrev hi hspent => ?places⟩
  case passing =>
    let f := recordOf x.tag instant clock w
    have htake : takeIntake p x u = recordKept i f u := by
      unfold takeIntake
      rw [hx]
      exact takeFeederPassing_kept (s := u) hw (hfor.trans hi) hp hwatch hl hconf
    obtain ⟨t, hgranted, hsilent, hsettle, hslots⟩ := lineGranted_slots hc hh hr hq htake rfl
    exact ⟨t, hgranted, hsilent, hsettle, fun j hj => (slotOf_congr hslots j).trans (slotOf_setSlot_other u i j _ hj),
      (slotOf_congr hslots i).trans (slotOf_setSlot_same u i _)⟩
  case noSlot =>
    obtain ⟨r, hx, -, -⟩ := takeIntake_revision (p := p) hrev
    have hv : takeIntake p x u = u := by
      rw [hx]
      unfold takeFeederRevision
      rw [hfor, hnone]
    exact lineGranted_slots (v := u) hc hh hr hq hv rfl
  case places =>
    obtain ⟨r, hx, hwithdraw, hretime⟩ := takeIntake_revision (p := p) hrev
    intro stands
    refine ⟨fun f hf ht hconf hwatch hsettle hstands => ?feeder,
      fun before e after hfeeder hl he ht hothers hstands => ?settle,
      fun z e hfeeder hsettle hz he hw hfifo => ?issued⟩
    case feeder =>
      have hv := (hx u).trans
        (takeFeederRevision_feeder (s := u) r (hfor.trans hi) hspent hf ht hconf hwatch hsettle hstands)
      obtain ⟨t, hgranted, hsilent, hsettle, hslots⟩ := lineGranted_slots hc hh hr hq hv rfl
      have hslot : slotOf t i = { slotOf s i with feeder := reviseFeeder f r } :=
        (slotOf_congr hslots i).trans (slotOf_setSlot_same u i _)
      refine ⟨t, hgranted, hsilent, hsettle, fun j hj => (slotOf_congr hslots j).trans (slotOf_setSlot_other u i j _ hj),
        fun hb => hslot.trans ?_, fun w c hb => hslot.trans ?_⟩
      · rw [hwithdraw hb]
        rfl
      · rw [hretime w c hb]
        rfl
    case settle =>
      have hv := (hx u).trans
        (takeFeederRevision_settle (s := u) r (hfor.trans hi) hspent hfeeder hl he ht hothers hstands)
      obtain ⟨t, hgranted, hsilent, hlist, hslots⟩ := lineGranted_slots hc hh hr hq hv rfl
      refine ⟨t, hgranted, hsilent, hslots, fun hb => hlist.trans ?_, fun w c hb => hlist.trans ?_⟩
      · rw [hwithdraw hb]
        rfl
      · rw [hretime w c hb]
        rfl
    case issued =>
      obtain ⟨hissued, htag⟩ := hz
      have htake : takeIntake p x u = amendIssued p i z e r u :=
        (hx u).trans (takeFeederRevision_issued (s := u) r (hfor.trans hi) hspent hfeeder hsettle hissued htag he hw)
      intro amended same
      have hamended : ∀ v c w, amendIssued p i z e r u = amendSector i z v c w u → ∃ t, amended v c w t := fun v c w hv =>
        lineGrant_amended hc hh hr hq (htake.trans hv) htag he hfifo
      have hsame : amendIssued p i z e r u = u → ∃ t, same t := fun hv =>
        lineGranted_slots (v := u) hc hh hr hq (htake.trans hv) rfl
      refine ⟨fun hb hne => ?_, fun hb hnone => ?_, fun w c hb => ?_⟩
      · rw [hwithdraw hb] at hamended
        obtain ⟨t, ht⟩ := hamended _ _ _ ((amendIssued_withdraw i z e u).1 hne)
        exact ⟨t, _, ht⟩
      · rw [hwithdraw hb] at hsame
        exact hsame ((amendIssued_withdraw i z e u).2 hnone)
      · intro d
        rw [hretime w c hb] at hamended hsame
        refine ⟨fun h0 h1 hne => hamended _ _ _ ((amendIssued_retime_in c u h0 h1).1 hne),
          fun h0 h1 heq => hsame ((amendIssued_retime_in c u h0 h1).2 heq), fun hout hne => ?_,
          fun hout hnone => hsame ((amendIssued_retime_out c u hout).2 hnone)⟩
        obtain ⟨t, ht⟩ := hamended _ _ _ ((amendIssued_retime_out c u hout).1 hne)
        exact ⟨t, _, ht⟩

end Sys2Proof.Machine
end


section
/-! PROOFS. Sections 7.2 and 7.3: the two orders in which a feeder passing and a local passing make one sector (R116, R117, R120,
R121). -/

namespace Sys2Proof.Machine

variable {p : Params} {s t : State}

/-! ## What the trap logic and the offers leave of the sectors -/

/-- Slots, pending sectors and settle entries stand as they were. -/
structure SectorsSame (s t : State) : Prop where
  slots : t.table.slots = s.table.slots
  pending : t.table.pending = s.table.pending
  settle : t.table.settle = s.table.settle

theorem takeTrapItem_sectors (p : Params) (i : SlotNo) (x : TrapItem) (s : State) : SectorsSame s (takeTrapItem p i x s) := by
  have hpair : ∀ a b, SectorsSame s (judgePair p i a b s) := fun a b => by
    have htable : (writeSpeed p a b (offerRecord (.speed (pairRecord p s i a b)) s)).table = s.table := by
      rw [writeSpeed_frame]
      rfl
    exact ⟨(congrArg TableBlock.slots htable).trans rfl, (congrArg TableBlock.pending htable).trans rfl,
      (congrArg TableBlock.settle htable).trans rfl⟩
  unfold takeTrapItem
  split
  · exact ⟨rfl, rfl, rfl⟩
  · split
    · exact hpair _ _
    · exact hpair _ _
    · exact ⟨rfl, rfl, rfl⟩

theorem offerToTrap_sectors (p : Params) (i : SlotNo) (x : NewPassing) (w : Flags) (s : State) :
    SectorsSame s (offerToTrap p i x w s) := by
  unfold offerToTrap
  split
  · exact takeTrapItem_sectors _ _ _ _
  · exact ⟨rfl, rfl, rfl⟩

/-- After the sector step, the records, the notice and the trap logic leave slots and sectors as they are. -/
theorem countAndPair_sectors {i : SlotNo} {x : NewPassing} {w : Flags} {a b : WithRecords}
    (hcount : countPassing p i x w s = a) (hpair : sectorStep p i x (removeWatch i a.1) = b) :
    SectorsSame b.1 (countAndPair p i x w s) := by
  let issued := offerRecords (a.2 ++ b.2) (offerRecord (slotPassingRec p b.1 i x w) b.1)
  have htable : (offerPassing x.number x.transponder x.instant w issued).table = b.1.table := by
    rw [(offerPassing_table _ _ _ _ issued).1]
    show (offerRecords _ _).table = _
    rw [offerRecords_frame]
    rfl
  have heq : countAndPair p i x w s = offerToTrap p i x w (offerPassing x.number x.transponder x.instant w issued) := by
    unfold countAndPair
    rw [hcount]
    dsimp only
    rw [hpair]
  obtain ⟨hslots, hpending, hsettle⟩ := offerToTrap_sectors p i x w (offerPassing x.number x.transponder x.instant w issued)
  rw [heq]
  exact ⟨hslots.trans (congrArg _ htable), hpending.trans (congrArg _ htable), hsettle.trans (congrArg _ htable)⟩

/-! ## A slot that keeps its transponder -/

theorem SlotMove.slots {arms : Prop} {i : SlotNo} (h : SlotMove arms i s t) :
    (∃ x, SlotKept (slotOf s i) x ∧ t.table.slots = (setSlot i x s).table.slots) ∨ t.table.slots = s.table.slots := by
  cases h with
  | slot hk => exact .inl ⟨_, hk, rfl⟩
  | noticed n o _ => exact .inr (offerHigh_same _ _ _ s).slots
  | revised n tr r => exact .inr (offerRevision_same _ _ _ s).slots
  | _ => exact .inr rfl

/-- Moves on slot `i` keep its identity and leave the other slots as they are. -/
theorem SlotMoves.kept {arms : Prop} {i : SlotNo} (h : SlotMoves arms i s t) :
    SlotKept (slotOf s i) (slotOf t i) ∧ ∀ j, j ≠ i → slotOf t j = slotOf s j := by
  induction h with
  | refl => exact ⟨⟨rfl, rfl, rfl, .inl rfl, id⟩, fun _ _ => rfl⟩
  | tail _ hm ih =>
    obtain ⟨hkept, hothers⟩ := ih
    obtain ⟨x, hx, hslots⟩ | hslots := hm.slots
    · have hslot := (slotOf_congr hslots i).trans (slotOf_setSlot_same _ _ _)
      exact ⟨hkept.trans (hslot ▸ hx), fun j hj =>
        ((slotOf_congr hslots j).trans (slotOf_setSlot_other _ _ _ _ hj)).trans (hothers j hj)⟩
    · exact ⟨(slotOf_congr hslots i) ▸ hkept, fun j hj => (slotOf_congr hslots j).trans (hothers j hj)⟩

/-- A slot that keeps its identity, with the others as they were, is still the slot of its transponder. -/
theorem slotFor_kept {n : Nat} {i : SlotNo} (h : slotFor n s = some i) (hi : SlotKept (slotOf s i) (slotOf t i))
    (ho : ∀ j, j ≠ i → slotOf t j = slotOf s j) : slotFor n t = some i := by
  obtain ⟨hs, hleast⟩ := (findSlot_eq_some _ s i).mp h
  refine (findSlot_eq_some _ t i).mpr ⟨?_, fun j hj => ?_⟩
  · simp only [holdsTransponder, Bool.and_eq_true, bne_iff_ne] at hs ⊢
    rw [hi.transponder]
    refine ⟨?_, hs.2⟩
    obtain h | h := hi.state <;> rw [h]
    · exact hs.1
    · decide
  · rw [ho j (ne_of_lt hj)]
    exact hleast j hj

/-! ## The two halves meet (R116, R117, R120) -/

/-- The pair that the passing `n` at `t` and a feeder passing at `u` make. -/
def pairOf (p : Params) (n : Nat) (t : Time) (f : FeederRecord) (u : Time) (forecast : Bool) : SectorPair :=
  { number := n, instant := t, tag := f.tag, feederInstant := u, value := (timeDiff t u).toNat,
    flags := sectorFlags (isShort p (timeDiff t u)) (f.clock == .soft) forecast }

theorem takePair_settles {i : SlotNo} (x : SectorPair) (hr : isRunning s = true) (h0 : p.settleTime ≠ 0) (hs : s.table.settle = []) :
    takePair p i x s = (addSettle (settleEntryOf p i x s.now) s, []) := by
  have hnone : settleOf s i = none := by
    unfold settleOf
    rw [hs]
    rfl
  unfold takePair
  rw [hr, if_neg (by decide), if_neg h0, hnone]
  exact if_pos (by rw [hs]; decide)

theorem addSettle_first (e : SettleEntry) (hs : s.table.settle = []) : (addSettle e s).table.settle = [e] := by
  rw [addSettle_table_settle, hs]
  rfl

/-- A passing that finds its slot's feeder record within the max sector pairs with it. -/
theorem sectorStep_meets {i : SlotNo} {x : NewPassing} {f : FeederRecord} {u : Time} (hf : p.feeders ≠ [])
    (hp : pendingOf s i = none) (hfeeder : (slotOf s i).feeder = some f) (hu : f.instant = some u)
    (h0 : 0 < timeDiff x.instant u) (h1 : timeDiff x.instant u ≤ (p.maxSector * 1000 : Nat)) (hr : isRunning s = true)
    (ht : p.settleTime ≠ 0) (hs : s.table.settle = []) :
    sectorStep p i x s = (addSettle (settleEntryOf p i
        (pairOf p x.number x.instant f u (hasFlag f.flags .forecast || x.kind == .forecast)) s.now)
      (setSpent i (if x.kind = .forecast then some f else (slotOf s i).spent) (setFeeder i none s)), []) := by
  have hmeet : sectorStep p i x s = meetFeeder p i x f u s := by
    unfold sectorStep
    rw [if_neg (by rw [List.isEmpty_iff]; exact hf), hp]
    dsimp only
    unfold meetRecord
    rw [hfeeder]
    dsimp only
    rw [hu]
  rw [hmeet]
  unfold meetFeeder
  dsimp only
  rw [if_neg (by omega), if_pos ((inRange_iff p _).mpr ⟨h0, h1⟩)]
  exact takePair_settles (s := setSpent i _ (setFeeder i none s)) _ hr ht hs

/-- A passing that finds no feeder record waits as a pending sector. -/
theorem sectorStep_waits {i : SlotNo} {x : NewPassing} (hf : p.feeders ≠ []) (hp : pendingOf s i = none)
    (hfeeder : (slotOf s i).feeder = none) (hr : isRunning s = true) (hw : p.pairWait ≠ 0) :
    sectorStep p i x s = (addPending
      { slot := i, number := x.number, instant := x.instant, expiry := later s.now (p.pairWait * 1000), due := false } s, []) := by
  unfold sectorStep
  rw [if_neg (by rw [List.isEmpty_iff]; exact hf), hp]
  dsimp only
  unfold meetRecord
  rw [hfeeder]
  dsimp only
  unfold makePending
  rw [if_neg hw, hr, if_neg (by decide)]

/-- A feeder passing that meets a pending sector within the max sector pairs with it. -/
theorem meetPending_meets {i : SlotNo} {e : PendingSector} {f : FeederRecord} {u : Time} (hu : f.instant = some u)
    (h0 : 0 < timeDiff e.instant u) (h1 : timeDiff e.instant u ≤ (p.maxSector * 1000 : Nat)) (hr : isRunning s = true)
    (ht : p.settleTime ≠ 0) (hs : s.table.settle = []) :
    meetPending p i e f s = addSettle
      (settleEntryOf p i (pairOf p e.number e.instant f u (hasFlag f.flags .forecast)) s.now)
      (setSpent i none (removePending i s)) := by
  unfold meetPending
  rw [hu]
  dsimp only
  rw [if_neg (by omega), if_pos ((inRange_iff p _).mpr ⟨h0, h1⟩),
    takePair_settles (s := setSpent i none (removePending i s)) _ hr ht hs]
  rfl

theorem pendingOf_of_nil (i : SlotNo) (h : s.table.pending = []) : pendingOf s i = none := by
  unfold pendingOf
  rw [h]
  rfl

theorem recordKept_slot (i : SlotNo) (f : FeederRecord) (s : State) :
    slotOf (recordKept i f s) i =
        { slotOf s i with state := .active, lastActivity := some s.now, spent := none, feeder := some f } ∧
      ∀ j, j ≠ i → slotOf (recordKept i f s) j = slotOf s j := by
  unfold recordKept
  exact ⟨slotOf_setSlot_same s i _, fun j hj => slotOf_setSlot_other s i j _ hj⟩

/-- The state in which the first loop passing of its slot looks for its feeder passing. -/
def countedFirst (i : SlotNo) (x : NewPassing) (s : State) : State :=
  removeWatch i (setSlot i (countedSlot x x.flags false { slotOf s i with state := .active, lastActivity := some s.now })
    (logPassing i x x.flags (touchSlot i s)))

theorem countedFirst_feeder (i : SlotNo) (x : NewPassing) (s : State) :
    (slotOf (countedFirst i x s) i).feeder = (slotOf s i).feeder := by
  let b := logPassing i x x.flags (touchSlot i s)
  let y := countedSlot x x.flags false { slotOf s i with state := .active, lastActivity := some s.now }
  have hslot : slotOf (countedFirst i x s) i = y :=
    (slotOf_congr (s := setSlot i y b) rfl i).trans (slotOf_setSlot_same b i y)
  rw [hslot]
  rfl

theorem countedFirst_frame (i : SlotNo) (x : NewPassing) (s : State) :
    (countedFirst i x s).table.pending = s.table.pending ∧ (countedFirst i x s).table.settle = s.table.settle ∧
      (countedFirst i x s).now = s.now ∧ (countedFirst i x s).station = s.station := ⟨rfl, rfl, rfl, rfl⟩

theorem isRunning_of_station (h : t.station = s.station) : isRunning t = isRunning s := by
  unfold isRunning stationState
  rw [h]

/-- A first loop passing of its slot counts no lap and is paired in the slot as it is then. -/
theorem processInSlot_firstSectors {i : SlotNo} {x : NewPassing} {b : WithRecords} (hk : x.kind = .loop)
    (hl : (slotOf s i).last = none) (hpair : sectorStep p i x (countedFirst i x s) = b) :
    SectorsSame b.1 (processInSlot p i x s) := by
  have hbefore : beforeRepeat p i x s = touchSlot i s :=
    beforeRepeat_unspanned (by rw [hk]; exact PassingKind.noConfusion) fun l h => nomatch hl.symm.trans h
  have hslot := touchSlot_slot i s
  have hr : isRepeat p x (slotOf (beforeRepeat p i x s) i) = false := by
    rw [hbefore, isRepeat_touchSlot]
    exact isRepeat_first x hl
  rw [processInSlot_counted hr, hbefore]
  refine countAndPair_sectors (s := logPassing i x x.flags (touchSlot i s)) (countPassing_first ?_) ?_
  · show (slotOf (touchSlot i s) i).last = none
    rw [hslot]
    exact hl
  · rw [← hpair]
    unfold countedFirst
    rw [← hslot]
    rfl

/-- The passing finds the feeder record that came before it. -/
theorem passing_meets_record {i : SlotNo} {x : NewPassing} {f : FeederRecord} {u : Time} (hrun : isRunning s = true)
    (hk : x.kind = .loop) (hfeeders : p.feeders ≠ []) (ht : p.settleTime ≠ 0) (hi : slotFor x.transponder s = some i)
    (hl : (slotOf s i).last = none) (hf : (slotOf s i).feeder = some f) (hp : s.table.pending = []) (hs : s.table.settle = [])
    (hu : f.instant = some u) (h0 : 0 < timeDiff x.instant u) (h1 : timeDiff x.instant u ≤ (p.maxSector * 1000 : Nat)) :
    (processPassing p x s).table.settle =
        [settleEntryOf p i (pairOf p x.number x.instant f u (hasFlag f.flags .forecast)) s.now] ∧
      (processPassing p x s).table.pending = [] := by
  obtain ⟨hcp, hcs, hcn, hcst⟩ := countedFirst_frame i x s
  have hpair := sectorStep_meets (s := countedFirst i x s) hfeeders (pendingOf_of_nil i (hcp.trans hp))
    ((countedFirst_feeder i x s).trans hf) hu h0 h1 ((isRunning_of_station hcst).trans hrun) ht (hcs.trans hs)
  rw [hk, show (PassingKind.loop == PassingKind.forecast) = false from rfl, Bool.or_false, hcn] at hpair
  obtain ⟨-, hpending, hsettle⟩ := processInSlot_firstSectors hk hl hpair
  rw [processPassing_own hi]
  exact ⟨hsettle.trans (addSettle_first _ (hcs.trans hs)), hpending.trans (hcp.trans hp)⟩

/-- The passing waits for the feeder passing that comes after it. -/
theorem passing_waits {i : SlotNo} {x : NewPassing} (hrun : isRunning s = true) (hk : x.kind = .loop)
    (hfeeders : p.feeders ≠ []) (hw : p.pairWait ≠ 0) (hi : slotFor x.transponder s = some i) (hl : (slotOf s i).last = none)
    (hfeeder : (slotOf s i).feeder = none) (hp : s.table.pending = []) (hs : s.table.settle = []) :
    (processPassing p x s).table.settle = [] ∧ ∃ e, (processPassing p x s).table.pending = [e] ∧ e.slot = i ∧
      e.number = x.number ∧ e.instant = x.instant := by
  obtain ⟨hcp, hcs, -, hcst⟩ := countedFirst_frame i x s
  have hpair := sectorStep_waits (x := x) (s := countedFirst i x s) hfeeders (pendingOf_of_nil i (hcp.trans hp))
    ((countedFirst_feeder i x s).trans hfeeder) ((isRunning_of_station hcst).trans hrun) hw
  obtain ⟨-, hpending, hsettle⟩ := processInSlot_firstSectors hk hl hpair
  rw [addPending_table_pending, hcp, hp] at hpending
  rw [processPassing_own hi]
  exact ⟨hsettle.trans (hcs.trans hs), _, hpending, rfl, rfl, rfl⟩

/-- The feeder passing finds the pending sector of the passing before it. -/
theorem takeFeederPassing_meets {n : Nat} {i : SlotNo} {e : PendingSector} {f : FeederRecord} {u : Time} (hrun : isRunning s = true)
    (ht : p.settleTime ≠ 0) (hi : slotFor n s = some i) (hp : s.table.pending = [e]) (he : e.slot = i) (hs : s.table.settle = [])
    (hf : hasFlag f.flags .repeated = false) (hu : f.instant = some u) (h0 : 0 < timeDiff e.instant u)
    (h1 : timeDiff e.instant u ≤ (p.maxSector * 1000 : Nat)) :
    (takeFeederPassing p n f s).table.settle =
        [settleEntryOf p i (pairOf p e.number e.instant f u (hasFlag f.flags .forecast)) s.now] ∧
      (takeFeederPassing p n f s).table.pending = [] := by
  have hof : pendingOf (touchSlot i s) i = some e := by
    unfold pendingOf
    rw [show (touchSlot i s).table.pending = [e] from hp]
    exact List.find?_cons_of_pos (beq_iff_eq.mpr he)
  have htake : takeFeederPassing p n f s = meetPending p i e f (touchSlot i s) := by
    unfold takeFeederPassing
    rw [hf, slotToProcess_own hi]
    show feederInSlot p i f (touchSlot i s) = _
    unfold feederInSlot
    rw [hof]
  rw [htake, meetPending_meets (s := touchSlot i s) hu h0 h1 hrun ht hs]
  refine ⟨addSettle_first _ hs, ?_⟩
  show s.table.pending.filter (fun e => e.slot != i) = []
  rw [← he]
  exact filter_singleton_slot hp

/-- Settles O44: either half waits for the other, as feeder record or as pending sector, and both orders make the pair of the two. -/
theorem eitherOrderGivesTheSameSector : Obligations.EitherOrderGivesTheSameSector := by
  intro p i x f u s hc hm hk hfeeders hwait ht hi hl hfeeder hconf hp hs hw hu hrep h0 h1 feederFirst localFirst
  have hrun : isRunning s = true := isRunning_of_mode hc hm
  let e := settleEntryOf p i (pairOf p x.number x.instant f u (hasFlag f.flags .forecast)) s.now
  have hfeederFirst : feederFirst.table.settle = [e] ∧ feederFirst.table.pending = [] := by
    have hkept : takeFeederPassing p x.transponder f s = recordKept i f s :=
      takeFeederPassing_kept hrep hi (by rw [hp]; exact nofun) (by rw [hw]; exact nofun) (fun l _ h => nomatch hl.symm.trans h)
        hconf
    obtain ⟨hslot, hothers⟩ := recordKept_slot i f s
    have hfor : slotFor x.transponder (recordKept i f s) = some i := by
      refine slotFor_kept hi ?_ hothers
      rw [hslot]
      exact ⟨rfl, rfl, rfl, .inr rfl, id⟩
    show (processPassing p x (takeFeederPassing p x.transponder f s)).table.settle = [e] ∧
      (processPassing p x (takeFeederPassing p x.transponder f s)).table.pending = []
    rw [hkept]
    exact passing_meets_record (s := recordKept i f s) hrun hk hfeeders ht hfor (by rw [hslot]; exact hl) (by rw [hslot]) hp hs
      hu h0 h1
  have hlocalFirst : localFirst.table.settle = [e] ∧ localFirst.table.pending = [] := by
    obtain ⟨hnone, y, hwaits, hy, hnumber, hinstant⟩ := passing_waits hrun hk hfeeders hwait hi hl hfeeder hp hs
    have hmoves : SlotMoves False i s (processPassing p x s) := by
      rw [processPassing_own hi]
      exact processInSlot_moves p .refl
    have hmeets := takeFeederPassing_meets (f := f) (hmoves.running.trans hrun) ht
      (slotFor_kept hi hmoves.kept.1 hmoves.kept.2) hwaits hy hnone hrep hu (hinstant ▸ h0) (hinstant ▸ h1)
    rw [hnumber, hinstant, hmoves.spares.now] at hmeets
    exact hmeets
  exact ⟨e, hfeederFirst.1, hlocalFirst.1, rfl, rfl, rfl, Int.toNat_of_nonneg (le_of_lt h0), rfl, rfl, rfl, rfl, hfeederFirst.2,
    hlocalFirst.2⟩

end Sys2Proof.Machine
end


section
/-! PROOFS. Sections 7.6 and 8.4: what the work on a slot's sectors leaves of the slot and of the log, and the withdrawal of a passing
(R126, R128, R142). -/

namespace Sys2Proof.Machine

variable {p : Params} {s t u : State} {i : SlotNo}

/-! ## Results written, and nothing else -/

/-- `x` is `y` but for its last issued sector and its forecast. -/
def SectorOf (y x : Slot) : Prop := x = { y with issued := x.issued, expected := x.expected, confidence := x.confidence }

theorem SectorOf.refl (y : Slot) : SectorOf y y := rfl

theorem SectorOf.trans {x y z : Slot} (h : SectorOf x y) (k : SectorOf y z) : SectorOf x z := by
  unfold SectorOf at h k ⊢
  rw [h] at k
  exact k

/-- `e'` is `e` but for the results and marks that later work writes into it. -/
def ResultsOf (e e' : LogEntry) : Prop :=
  e' = { e with lap := e'.lap, sector := e'.sector, speed := e'.speed, unsent := e'.unsent }

theorem ResultsOf.trans {e f g : LogEntry} (h : ResultsOf e f) (k : ResultsOf f g) : ResultsOf e g := by
  unfold ResultsOf at h k ⊢
  rw [h] at k
  exact k

/-- Every entry of the log stands, but for its results and marks. -/
def EntriesKept (s t : State) : Prop := ∀ n e, logEntry s n = some e → ∃ e', logEntry t n = some e' ∧ ResultsOf e e'

theorem EntriesKept.refl (s : State) : EntriesKept s s := fun _ e h => ⟨e, h, rfl⟩

theorem EntriesKept.trans (h : EntriesKept s t) (k : EntriesKept t u) : EntriesKept s u := fun n e he => by
  obtain ⟨f, hf, hef⟩ := h n e he
  obtain ⟨g, hg, hfg⟩ := k n f hf
  exact ⟨g, hg, hef.trans hfg⟩

theorem entriesKept_of_log (h : t.log = s.log) : EntriesKept s t := fun n e he => ⟨e, (logEntry_congr h n).trans he, rfl⟩

theorem updateLog_entries {n : Nat} {f : LogEntry → LogEntry} (hf : ∀ e, ResultsOf e (f e)) (s : State) :
    EntriesKept s (updateLog n f s) := fun m e he => by
  by_cases hm : m = n
  · subst hm
    exact ⟨f e, logEntry_updated he, hf e⟩
  · exact ⟨e, (logEntry_updateLog_other n m f s hm).trans he, rfl⟩

theorem offerHigh_entries (n : Nat) (b : NoticeBody) (o : Owed) (s : State) : EntriesKept s (offerHigh n b o s) := by
  obtain ⟨-, h⟩ | ⟨-, h⟩ := offerHigh_cases n b o s <;> rw [h]
  · refine entriesKept_of_log ?_
    rw [(settleLine_frame _).1]
    rfl
  · exact updateLog_entries (f := fun e => { e with unsent := some o }) (fun _ => rfl) s

theorem pullUnsent_entries (s : State) : EntriesKept s (pullUnsent s) := by
  unfold pullUnsent
  split
  · exact .refl s
  · split
    · exact .refl s
    next e o _ =>
      refine (updateLog_entries (n := e.number) (f := clearUnsent) (fun _ => rfl) s).trans (entriesKept_of_log ?_)
      rw [(settleLine_frame _).1]
      rfl

theorem offerRevision_entries (n transponder : Nat) (r : Revision) (s : State) :
    EntriesKept s (offerRevision n transponder r s) := by
  unfold offerRevision
  split
  · unfold reviseUnsent
    split
    · exact updateLog_entries (f := clearUnsent) (fun _ => rfl) s
    · exact .refl s
  · split
    · dsimp only
      split
      · refine (entriesKept_of_log (s := s) (t := setQueue (reviseQueue n r s.line.queue).1 s) rfl).trans
          ((pullUnsent_entries _).trans (entriesKept_of_log ?_))
        rw [(settleLine_frame _).1]
      · exact entriesKept_of_log rfl
    · exact offerHigh_entries _ _ _ _

/-- Work on the sectors of slot `i`: its last issued sector and its forecast, and results in the log. -/
structure SectorWork (i : SlotNo) (s t : State) : Prop where
  slot : SectorOf (slotOf s i) (slotOf t i)
  entries : EntriesKept s t

theorem SectorWork.refl (i : SlotNo) (s : State) : SectorWork i s s := ⟨.refl _, .refl s⟩

theorem SectorWork.trans (h : SectorWork i s t) (k : SectorWork i t u) : SectorWork i s u :=
  ⟨h.slot.trans k.slot, h.entries.trans k.entries⟩

/-- An operation that leaves the slots and the log alone. -/
theorem sectorWork_of (hs : t.table.slots = s.table.slots) (hl : t.log = s.log) : SectorWork i s t :=
  ⟨by rw [slotOf_congr hs i]; exact .refl _, entriesKept_of_log hl⟩

theorem slotAfterSector_of (p : Params) (r : SectorRec) (x : Slot) : SectorOf x (slotAfterSector p r x) := by
  unfold slotAfterSector
  dsimp only
  split
  · split <;> rfl
  · rfl

theorem putSector_work {r : SectorRec} (hi : r.slot = i) (s : State) : SectorWork i s (putSector p r s) := by
  subst hi
  let y := setSlot r.slot (slotAfterSector p r (slotOf s r.slot)) s
  refine ⟨?_, (entriesKept_of_log (s := s) (t := y) rfl).trans
    (updateLog_entries (f := fun e => { e with sector := some (sectorResult r) }) (fun _ => rfl) y)⟩
  rw [(slotOf_congr (s := y) (t := putSector p r s) rfl r.slot).trans (slotOf_setSlot_same _ _ _)]
  exact slotAfterSector_of _ _ _

theorem issueSector_work {r : SectorRec} (hi : r.slot = i) (s : State) : SectorWork i s (issueSector p r s) :=
  (putSector_work hi s).trans (sectorWork_of (s := putSector p r s) rfl rfl)

theorem amendSector_work (i : SlotNo) (z : IssuedSector) (v : Option Nat) (c : Reason) (w : Flags) (s : State) :
    SectorWork i s (amendSector i z v c w s) := by
  let y := setSlot i { slotOf s i with issued := some { z with value := v, flags := w } } s
  let f : LogEntry → LogEntry := fun e => { e with sector := some (amendedResult z.tag v c w) }
  refine ⟨?_, (entriesKept_of_log (s := s) (t := y) rfl).trans
    ((updateLog_entries (n := z.number) (f := f) (fun _ => rfl) y).trans (entriesKept_of_log rfl))⟩
  rw [(slotOf_congr (s := y) (t := amendSector i z v c w s) rfl i).trans (slotOf_setSlot_same _ _ _)]
  rfl

/-! ## The steps of a withdrawal (R128) -/

theorem withdrawPending_work (p : Params) (i : SlotNo) (n : Nat) (s : State) : SectorWork i s (withdrawPending p i n s) := by
  unfold withdrawPending
  split
  · exact .refl i s
  next e he =>
    split
    · exact (sectorWork_of (s := s) (t := removePending i s) rfl rfl).trans (issueSector_work (pendingOf_slot he) _)
    · exact .refl i s

theorem withdrawSettle_work (p : Params) (i : SlotNo) (n : Nat) (s : State) : SectorWork i s (withdrawSettle p i n s) := by
  unfold withdrawSettle
  split
  · exact .refl i s
  next e he =>
    split
    · exact (sectorWork_of (s := s) (t := removeSettle i s) rfl rfl).trans (issueSector_work (Eq.refl i) _)
    · exact .refl i s

theorem withdrawIssued_work (i : SlotNo) (n : Nat) (s : State) : SectorWork i s (withdrawIssued i n s) := by
  unfold withdrawIssued
  split
  · exact .refl i s
  · split
    · exact amendSector_work _ _ _ _ _ s
    · exact .refl i s

theorem withdrawTrap_work (i : SlotNo) (n : Nat) (s : State) : SectorWork i s (withdrawTrap i n s) := by
  unfold withdrawTrap
  split
  · exact .refl i s
  · split
    · exact sectorWork_of rfl rfl
    · exact .refl i s

/-- In a list with one entry for each slot, the entry found for slot `i` is all there is of it. -/
theorem eq_of_find_slot {α : Type} {slot : α → SlotNo} {l : List α} {e y : α} (hn : (l.map slot).Nodup)
    (he : l.find? (fun z => slot z == i) = some e) (hy : y ∈ l) (hi : slot y = i) : y = e := by
  have hslot : slot e = i := by simpa using List.find?_some he
  exact List.inj_on_of_nodup_map hn hy (List.mem_of_find?_eq_some he) (hi.trans hslot.symm)

/-- A withdrawal leaves no pending sector of its passing in the slot. -/
theorem withdrawPending_list (n : Nat) (hn : (s.table.pending.map (·.slot)).Nodup) :
    ∀ e ∈ (withdrawPending p i n s).table.pending, e.slot = i → e.number ≠ n := by
  intro y hy hi
  unfold withdrawPending at hy
  split at hy
  next hnone =>
    exact absurd (beq_iff_eq.mpr hi) (by simpa using List.find?_eq_none.mp hnone y hy)
  next e he =>
    split at hy
    · exact absurd hi (bne_iff_ne.mp (List.mem_filter.mp hy).2)
    next hne => rwa [eq_of_find_slot hn he hy hi]

theorem withdrawSettle_list (n : Nat) (hn : (s.table.settle.map (·.slot)).Nodup) :
    ∀ e ∈ (withdrawSettle p i n s).table.settle, e.slot = i → e.number ≠ n := by
  intro y hy hi
  unfold withdrawSettle at hy
  split at hy
  next hnone =>
    exact absurd (beq_iff_eq.mpr hi) (by simpa using List.find?_eq_none.mp hnone y hy)
  next e he =>
    split at hy
    · exact absurd hi (bne_iff_ne.mp (List.mem_filter.mp hy).2)
    next hne => rwa [eq_of_find_slot hn he hy hi]

theorem withdrawPending_settle (p : Params) (i : SlotNo) (n : Nat) (s : State) :
    (withdrawPending p i n s).table.settle = s.table.settle := by
  unfold withdrawPending
  split
  · rfl
  · split <;> rfl

theorem withdrawSettle_pending (p : Params) (i : SlotNo) (n : Nat) (s : State) :
    (withdrawSettle p i n s).table.pending = s.table.pending := by
  unfold withdrawSettle
  split
  · rfl
  · split <;> rfl

theorem withdrawIssued_lists (i : SlotNo) (n : Nat) (s : State) :
    (withdrawIssued i n s).table.pending = s.table.pending ∧ (withdrawIssued i n s).table.settle = s.table.settle := by
  unfold withdrawIssued
  split
  · exact ⟨rfl, rfl⟩
  · split <;> exact ⟨rfl, rfl⟩

theorem withdrawTrap_lists (i : SlotNo) (n : Nat) (s : State) :
    (withdrawTrap i n s).table.pending = s.table.pending ∧ (withdrawTrap i n s).table.settle = s.table.settle := by
  unfold withdrawTrap
  split
  · exact ⟨rfl, rfl⟩
  · split <;> exact ⟨rfl, rfl⟩

/-! ## The withdrawal in the slot (R128, R142) -/

/-- The slot `y` with the lap of passing `n` taken back, where the passing counted one. -/
def unlapped (n : Nat) (counted : Bool) (y : Slot) : Slot :=
  if counted then uncountLap (y.last.map (·.number) = some n) y else y

theorem withdrawLap_slot (i : SlotNo) (n : Nat) (c : Bool) (s : State) :
    slotOf (withdrawLap i n c s) i = unlapped n c (slotOf s i) ∧ (withdrawLap i n c s).log = s.log ∧
      (withdrawLap i n c s).table.pending = s.table.pending ∧ (withdrawLap i n c s).table.settle = s.table.settle := by
  unfold withdrawLap unlapped
  split
  · exact ⟨slotOf_setSlot_same s i _, rfl, rfl, rfl⟩
  · exact ⟨rfl, rfl, rfl, rfl⟩

/-- The sectors of passing `n` after its withdrawal. -/
def withdrawSectors (p : Params) (i : SlotNo) (n : Nat) (s : State) : State :=
  withdrawTrap i n (withdrawIssued i n (withdrawSettle p i n (withdrawPending p i n s)))

theorem withdrawSectors_work (p : Params) (i : SlotNo) (n : Nat) (s : State) : SectorWork i s (withdrawSectors p i n s) :=
  (withdrawPending_work p i n s).trans ((withdrawSettle_work p i n _).trans ((withdrawIssued_work i n _).trans
    (withdrawTrap_work i n _)))

theorem withdrawSectors_lists (p : Params) (i : SlotNo) (n : Nat) (s : State) :
    (withdrawSectors p i n s).table.pending = (withdrawPending p i n s).table.pending ∧
      (withdrawSectors p i n s).table.settle = (withdrawSettle p i n (withdrawPending p i n s)).table.settle := by
  unfold withdrawSectors
  obtain ⟨htp, hts⟩ := withdrawTrap_lists i n (withdrawIssued i n (withdrawSettle p i n (withdrawPending p i n s)))
  obtain ⟨hip, his⟩ := withdrawIssued_lists i n (withdrawSettle p i n (withdrawPending p i n s))
  exact ⟨htp.trans (hip.trans (withdrawSettle_pending p i n _)), hts.trans his⟩

/-- The spent feeder restored where the passing withdrawn was the slot's forecast one. -/
def restoredIf (restores : Bool) (y : Slot) : Slot := if restores then restoreSpent y else y

/-- What the withdrawal of passing `n` in its slot makes of the slot, the log and the lists. -/
theorem withdrawInSlot_effect (p : Params) (i : SlotNo) (n : Nat) (c : Bool) (s : State) :
    (∃ a y, a.log = s.log ∧ SectorOf (forgetPassing a n (unlapped n c (slotOf s i))) y ∧
      slotOf (withdrawInSlot p i n c s) i = restoredIf (isLastForecast n (slotOf s i)) y) ∧
    EntriesKept s (withdrawInSlot p i n c s) ∧
    ((s.table.pending.map (·.slot)).Nodup → ∀ e ∈ (withdrawInSlot p i n c s).table.pending, e.slot = i → e.number ≠ n) ∧
    ((s.table.settle.map (·.slot)).Nodup → ∀ e ∈ (withdrawInSlot p i n c s).table.settle, e.slot = i → e.number ≠ n) := by
  obtain ⟨hslot, hlog, hpending, hsettle⟩ := withdrawLap_slot i n c s
  let a := withdrawLap i n c s
  let b := setSlot i (forgetPassing a n (slotOf a i)) a
  let d := withdrawSectors p i n b
  let t := withdrawInSlot p i n c s
  have ht : t = if isLastForecast n (slotOf s i) then setSlot i (restoreSpent (slotOf d i)) d else d := rfl
  have hb : slotOf b i = forgetPassing a n (unlapped n c (slotOf s i)) := by
    rw [← hslot]
    exact slotOf_setSlot_same a i _
  have hwork := withdrawSectors_work p i n b
  obtain ⟨hdp, hds⟩ := withdrawSectors_lists p i n b
  have htd : slotOf t i = restoredIf (isLastForecast n (slotOf s i)) (slotOf d i) ∧ t.log = d.log ∧
      t.table.pending = d.table.pending ∧ t.table.settle = d.table.settle := by
    rw [ht]
    unfold restoredIf
    split
    · exact ⟨slotOf_setSlot_same d i _, rfl, rfl, rfl⟩
    · exact ⟨rfl, rfl, rfl, rfl⟩
  obtain ⟨hts, htl, htp, hte⟩ := htd
  refine ⟨⟨a, slotOf d i, hlog, hb ▸ hwork.slot, hts⟩, ?_, fun hn => ?_, fun hn => ?_⟩
  · exact (entriesKept_of_log (s := s) (t := b) hlog).trans (hwork.entries.trans (entriesKept_of_log htl))
  · have hlist := withdrawPending_list (p := p) (i := i) (s := b) n (by rw [show b.table.pending = _ from hpending]; exact hn)
    rw [← hdp, ← htp] at hlist
    exact hlist
  · have hsettleB : (withdrawPending p i n b).table.settle = s.table.settle := (withdrawPending_settle p i n b).trans hsettle
    have hlist := withdrawSettle_list (p := p) (i := i) (s := withdrawPending p i n b) n (by rw [hsettleB]; exact hn)
    rw [← hds, ← hte] at hlist
    exact hlist

end Sys2Proof.Machine
end


section
/-! PROOFS. Chapter 8: a forecast passing made at the due of a watch, and replaced by a nearer one (R138, R139, R141, R142). -/

namespace Sys2Proof.Machine

variable {p : Params} {s t u : State} {i : SlotNo}

/-! ## The slot after a withdrawal (R128, R142) -/

theorem revertedLast_map (a : State) (q : Option (Nat × Time)) :
    (revertedLast a q).map (fun k => (k.number, k.instant)) = q := by
  cases q <;> rfl

/-- The slot after the withdrawal of its last local passing. -/
theorem forgetPassing_last {a : State} {n : Nat} {z : Slot} (h : z.last.map (·.number) = some n) :
    forgetPassing a n z = { z with last := revertedLast a z.previous, previous := none } := if_pos h

/-- The withdrawal of another passing leaves the last one and the laps of the slot. -/
theorem forgetPassing_other {a : State} {n : Nat} {z : Slot} (h : z.last.map (·.number) ≠ some n) :
    forgetPassing a n z = { z with previous := (forgetPassing a n z).previous } := by
  unfold forgetPassing
  rw [if_neg h]
  split <;> rfl

theorem forgetPassing_laps (a : State) (n : Nat) (z : Slot) :
    forgetPassing a n z = { z with last := (forgetPassing a n z).last, previous := (forgetPassing a n z).previous } := by
  unfold forgetPassing
  split
  · rfl
  · split <;> rfl

theorem unlapped_eq (n : Nat) (c : Bool) (y : Slot) :
    unlapped n c y = { y with
      lapCount := if c then y.lapCount - 1 else y.lapCount, lastLap := (unlapped n c y).lastLap,
      bestLap := (unlapped n c y).bestLap, bestBefore := (unlapped n c y).bestBefore } := by
  unfold unlapped uncountLap
  cases c
  · rfl
  · split
    · split <;> rfl
    · rfl

theorem unlapped_last {n : Nat} (c : Bool) {y : Slot} (h : y.last.map (·.number) = some n) :
    (unlapped n c y).bestLap = (if c then y.bestBefore else y.bestLap) ∧
      (unlapped n c y).lastLap = (if c then none else y.lastLap) := by
  unfold unlapped uncountLap
  rw [decide_eq_true h]
  cases c <;> exact ⟨rfl, rfl⟩

theorem unlapped_other {n : Nat} (c : Bool) {y : Slot} (h : y.last.map (·.number) ≠ some n) :
    (unlapped n c y).bestLap = y.bestLap := by
  unfold unlapped uncountLap
  rw [decide_eq_false h]
  cases c <;> rfl

theorem restoredIf_eq (b : Bool) (y : Slot) :
    restoredIf b y = { y with feeder := (restoredIf b y).feeder, spent := (restoredIf b y).spent } := by
  unfold restoredIf restoreSpent
  cases b
  · rfl
  · split
    · split <;> rfl
    · rfl

theorem restoredIf_spent (y : Slot) :
    (restoredIf true y).feeder = (if y.spent = none then y.feeder else y.spent) ∧ (restoredIf true y).spent = none := by
  unfold restoredIf restoreSpent
  rw [if_pos rfl]
  cases h : y.spent with
  | none => exact ⟨rfl, h⟩
  | some f => exact ⟨rfl, rfl⟩

/-- The slot `z` after passing `n`, whose lap was counted where `c` holds, is withdrawn from the slot `y`. -/
structure WithdrawnFrom (n : Nat) (c : Bool) (y z : Slot) : Prop where
  lastActivity : z.lastActivity = y.lastActivity
  lapCount : z.lapCount = if c then y.lapCount - 1 else y.lapCount
  wasLast : y.last.map (·.number) = some n →
    z.last.map (fun k => (k.number, k.instant)) = y.previous ∧ z.previous = none ∧
      z.bestLap = (if c then y.bestBefore else y.bestLap) ∧ z.lastLap = (if c then none else y.lastLap)
  wasOther : y.last.map (·.number) ≠ some n → z.last = y.last ∧ z.bestLap = y.bestLap
  restored : isLastForecast n y = true → z.feeder = (if y.spent = none then y.feeder else y.spent) ∧ z.spent = none

theorem withdrawInSlot_slot (p : Params) (i : SlotNo) (n : Nat) (c : Bool) (s : State) :
    WithdrawnFrom n c (slotOf s i) (slotOf (withdrawInSlot p i n c s) i) := by
  obtain ⟨⟨a, x, -, hsector, hslot⟩, -⟩ := withdrawInSlot_effect p i n c s
  generalize slotOf (withdrawInSlot p i n c s) i = z at hslot ⊢
  generalize slotOf s i = y at hsector hslot ⊢
  have hz : z = { x with feeder := z.feeder, spent := z.spent } := by
    rw [hslot]
    exact restoredIf_eq _ _
  have hlaps := forgetPassing_laps a n (unlapped n c y)
  have hun := unlapped_eq n c y
  refine ⟨?_, ?_, fun hlast => ?_, fun hother => ?_, fun hrestores => ?_⟩
  · rw [hz, hsector, hlaps, hun]
  · rw [hz, hsector, hlaps, hun]
  · have hkept : (unlapped n c y).last.map (·.number) = some n := by rw [hun]; exact hlast
    have hforget := forgetPassing_last (a := a) hkept
    obtain ⟨hbest, hlap⟩ := unlapped_last c hlast
    have hprevious : (unlapped n c y).previous = y.previous := by rw [hun]
    rw [hz, hsector, hforget]
    exact ⟨(revertedLast_map _ _).trans hprevious, rfl, hbest, hlap⟩
  · have hkept : (unlapped n c y).last.map (·.number) ≠ some n := by rw [hun]; exact hother
    have hlast : (unlapped n c y).last = y.last := by rw [hun]
    rw [hz, hsector, forgetPassing_other hkept]
    exact ⟨hlast, unlapped_other c hother⟩
  · have hfeeder : x.feeder = y.feeder ∧ x.spent = y.spent := by
      rw [hsector, hlaps, hun]
      exact ⟨rfl, rfl⟩
    obtain ⟨hf, hs⟩ := restoredIf_spent x
    rw [hslot, hrestores, hf, hs, hfeeder.1, hfeeder.2]
    exact ⟨rfl, rfl⟩

/-! ## The withdrawal outside the slot (R128) -/

theorem withdrawOutside_table (n transponder : Nat) (b : RecordBody) (s : State) :
    (withdrawOutside n transponder b s).table = s.table := by
  show (offerRevision n transponder .withdraw (updateLog n markWithdrawn s)).table = s.table
  rw [offerRevision_frame]
  rfl

theorem withdrawOutside_entry {n transponder : Nat} {b : RecordBody} {e : LogEntry} (h : logEntry s n = some e) :
    ∃ e', logEntry (withdrawOutside n transponder b s) n = some e' ∧ ResultsOf (markWithdrawn e) e' :=
  offerRevision_entries n transponder .withdraw (updateLog n markWithdrawn s) n _ (logEntry_updated h)

/-! ## The replacement of a forecast passing (R141, R142) -/

theorem replaceForecast_spanned {x : NewPassing} {l : LastPassing} {span : Nat} (hl : (slotOf s i).last = some l)
    (hs : l.span = some span) :
    replaceForecast p i x s = if 2 * (timeDiff x.instant l.instant).natAbs < span then
      withdrawInSlot p i l.number l.lapCounted
        (withdrawOutside l.number (transponderOf s i) (amendRec s i l.number .withdrawn) s) else s := by
  unfold replaceForecast
  rw [hl]
  dsimp only
  rw [hs]

/-- The part of O46 about a nearer passing. -/
theorem replaceForecast_replaces {x : NewPassing} {l : LastPassing} {span : Nat} (hl : (slotOf s i).last = some l)
    (hs : l.span = some span) (hf : hasFlag l.flags .forecast = true)
    (hnear : 2 * (timeDiff x.instant l.instant).natAbs < span) (hp : (s.table.pending.map (·.slot)).Nodup)
    (he : (s.table.settle.map (·.slot)).Nodup) :
    (∀ e, logEntry s l.number = some e → ∃ e', logEntry (replaceForecast p i x s) l.number = some e' ∧ e'.withdrawn = true) ∧
      (∀ e ∈ (replaceForecast p i x s).table.pending, e.slot = i → e.number ≠ l.number) ∧
      (∀ e ∈ (replaceForecast p i x s).table.settle, e.slot = i → e.number ≠ l.number) ∧
      isLastForecast l.number (slotOf s i) = true ∧
      WithdrawnFrom l.number l.lapCounted (slotOf s i) (slotOf (replaceForecast p i x s) i) := by
  let v := withdrawOutside l.number (transponderOf s i) (amendRec s i l.number .withdrawn) s
  have htable : v.table = s.table := withdrawOutside_table _ _ _ s
  rw [(replaceForecast_spanned hl hs).trans (if_pos hnear)]
  obtain ⟨-, hentries, hpending, hsettle⟩ := withdrawInSlot_effect p i l.number l.lapCounted v
  have hslot := withdrawInSlot_slot p i l.number l.lapCounted v
  rw [slotOf_congr (congrArg TableBlock.slots htable) i] at hslot
  rw [htable] at hpending hsettle
  refine ⟨fun e hx => ?_, hpending hp, hsettle he, ?_, hslot⟩
  · obtain ⟨y, hy, hye⟩ := withdrawOutside_entry hx
    obtain ⟨z, hz, hzy⟩ := hentries l.number y hy
    exact ⟨z, hz, congrArg LogEntry.withdrawn (hye.trans hzy)⟩
  · unfold isLastForecast
    rw [hl]
    dsimp only
    rw [hf, beq_self_eq_true]
    rfl

/-! ## The ring of the log under moves -/

/-- The counter and the numbers of the ring stand. -/
structure RingSame (s t : State) : Prop where
  counter : t.log.counter = s.log.counter
  numbers : t.log.places.map (·.number) = s.log.places.map (·.number)

theorem RingSame.refl (s : State) : RingSame s s := ⟨rfl, rfl⟩

theorem RingSame.trans (h : RingSame s t) (k : RingSame t u) : RingSame s u :=
  ⟨k.counter.trans h.counter, k.numbers.trans h.numbers⟩

theorem ringSame_of_log (h : t.log = s.log) : RingSame s t := ⟨congrArg _ h, congrArg (fun b => b.places.map (·.number)) h⟩

theorem updateLog_ring (n : Nat) (f : LogEntry → LogEntry) (s : State) : RingSame s (updateLog n f s) :=
  ⟨rfl, (List.map_map ..).trans (List.map_congr_left fun q _ => changePlace_number n f q)⟩

theorem writeLog_ring (n : Nat) (e : LogEntry) (s : State) : RingSame s (writeLog n e s) :=
  ⟨rfl, (List.map_map ..).trans (List.map_congr_left fun q _ => fillPlace_number n e q)⟩

theorem settleLine_ring (h : t.log = s.log) : RingSame s (settleLine t) := ringSame_of_log (by rw [(settleLine_frame t).1, ← h])

theorem offerHigh_ring (n : Nat) (b : NoticeBody) (o : Owed) (s : State) : RingSame s (offerHigh n b o s) := by
  obtain ⟨-, h⟩ | ⟨-, h⟩ := offerHigh_cases n b o s <;> rw [h]
  · exact settleLine_ring rfl
  · exact updateLog_ring _ _ s

theorem pullUnsent_ring (s : State) : RingSame s (pullUnsent s) := by
  unfold pullUnsent
  split
  · exact .refl s
  · split
    · exact .refl s
    next e o _ =>
      exact (updateLog_ring e.number clearUnsent s).trans
        (settleLine_ring (s := updateLog e.number clearUnsent s) rfl)

theorem offerRevision_ring (n transponder : Nat) (r : Revision) (s : State) : RingSame s (offerRevision n transponder r s) := by
  unfold offerRevision
  split
  · unfold reviseUnsent
    split
    · exact updateLog_ring _ _ s
    · exact .refl s
  · split
    · dsimp only
      split
      · exact (ringSame_of_log (s := s) (t := setQueue (reviseQueue n r s.line.queue).1 s) rfl).trans
          ((pullUnsent_ring _).trans (settleLine_ring rfl))
      · exact ringSame_of_log rfl
    · exact offerHigh_ring _ _ _ s

theorem SlotMove.ring {arms : Prop} (h : SlotMove arms i s t) : RingSame s t := by
  cases h with
  | logged n _ => exact updateLog_ring _ _ s
  | written _ => exact writeLog_ring _ _ s
  | noticed n o _ => exact offerHigh_ring _ _ _ s
  | revised n tr r => exact offerRevision_ring _ _ _ s
  | _ => exact ringSame_of_log rfl

theorem SlotMoves.ring {arms : Prop} (h : SlotMoves arms i s t) : RingSame s t := by
  induction h with
  | refl => exact .refl s
  | tail _ hm ih => exact ih.trans hm.ring

/-- A number of the ring is a number of the ring still. -/
theorem RingSame.mem (h : RingSame s t) {n : Nat} (hn : ∃ q ∈ s.log.places, q.number = n) : ∃ q ∈ t.log.places, q.number = n := by
  rw [← List.mem_map (f := LogPlace.number), h.numbers, List.mem_map]
  exact hn

/-! ## The sector step of a counted passing -/

/-- `x` is `y` but for its feeder passings, its last issued sector and its forecast. -/
def PairedOf (y x : Slot) : Prop :=
  x = { y with feeder := x.feeder, spent := x.spent, issued := x.issued, expected := x.expected, confidence := x.confidence }

/-- Pairing in slot `i`: its feeder passings and sectors, and results in the log. -/
structure PairWork (i : SlotNo) (s t : State) : Prop where
  slot : PairedOf (slotOf s i) (slotOf t i)
  entries : EntriesKept s t

theorem PairWork.trans (h : PairWork i s t) (k : PairWork i t u) : PairWork i s u := by
  obtain ⟨hs, he⟩ := h
  obtain ⟨ks, ke⟩ := k
  refine ⟨?_, he.trans ke⟩
  unfold PairedOf at hs ks ⊢
  rw [hs] at ks
  exact ks

theorem SectorWork.pair (h : SectorWork i s t) : PairWork i s t := by
  refine ⟨?_, h.entries⟩
  have hs := h.slot
  unfold SectorOf at hs
  unfold PairedOf
  rw [hs]

/-- An operation that leaves the slots and the log alone. -/
theorem pairWork_of (hs : t.table.slots = s.table.slots) (hl : t.log = s.log) : PairWork i s t := (sectorWork_of hs hl).pair

theorem PairWork.refl (i : SlotNo) (s : State) : PairWork i s s := (SectorWork.refl i s).pair

theorem setFeeder_pair (i : SlotNo) (f : Option FeederRecord) (s : State) : PairWork i s (setFeeder i f s) := by
  refine ⟨?_, entriesKept_of_log rfl⟩
  rw [show slotOf (setFeeder i f s) i = _ from slotOf_setSlot_same s i _]
  rfl

theorem setSpent_pair (i : SlotNo) (f : Option FeederRecord) (s : State) : PairWork i s (setSpent i f s) := by
  refine ⟨?_, entriesKept_of_log rfl⟩
  rw [show slotOf (setSpent i f s) i = _ from slotOf_setSlot_same s i _]
  rfl

theorem takePair_pair (p : Params) (i : SlotNo) (x : SectorPair) (s : State) : PairWork i s (takePair p i x s).1 := by
  unfold takePair
  split
  · exact (putSector_work (Eq.refl i) s).pair
  · split
    · exact (putSector_work (Eq.refl i) s).pair
    · split
      next e he =>
        have hslot : (earlyRec p s e).slot = i := (settleRec_slot p s e).trans (settleOf_slot he)
        let v := putSector p (earlyRec p s e) s
        exact (putSector_work hslot s).pair.trans
          (pairWork_of (s := v) (t := addSettle (settleEntryOf p i x s.now) (removeSettle i v)) rfl rfl)
      · split
        · exact pairWork_of (t := addSettle (settleEntryOf p i x s.now) s) rfl rfl
        · exact (putSector_work (Eq.refl i) s).pair

theorem makePending_pair (p : Params) (i : SlotNo) (x : NewPassing) (s : State) : PairWork i s (makePending p i x s).1 := by
  unfold makePending
  split
  · exact (putSector_work (Eq.refl i) s).pair
  · split
    · exact (putSector_work (Eq.refl i) s).pair
    · exact pairWork_of (t := addPending _ s) rfl rfl

theorem meetFeeder_pair (p : Params) (i : SlotNo) (x : NewPassing) (f : FeederRecord) (v : Time) (s : State) :
    PairWork i s (meetFeeder p i x f v s).1 := by
  unfold meetFeeder
  dsimp only
  split
  · exact makePending_pair p i x s
  · split
    · exact (setFeeder_pair i none s).trans ((setSpent_pair i _ _).trans (takePair_pair p i _ _))
    · exact (setFeeder_pair i none s).trans (makePending_pair p i x _)

theorem meetRecord_pair (p : Params) (i : SlotNo) (x : NewPassing) (s : State) : PairWork i s (meetRecord p i x s).1 := by
  unfold meetRecord
  split
  · exact makePending_pair p i x s
  · split
    · exact (setFeeder_pair i none s).trans (putSector_work (Eq.refl i) _).pair
    · exact meetFeeder_pair p i x _ _ s

theorem sectorStep_pair (p : Params) (i : SlotNo) (x : NewPassing) (s : State) : PairWork i s (sectorStep p i x s).1 := by
  unfold sectorStep
  split
  · exact .refl i s
  · split
    · exact meetRecord_pair p i x s
    next e he =>
      have hwork : SectorWork i s (putSector p (pendingEndRec s e .noFeeder) (removePending i s)) :=
        (sectorWork_of (s := s) (t := removePending i s) rfl rfl).trans (putSector_work (pendingOf_slot he) _)
      exact hwork.pair.trans (meetRecord_pair p i x _)

/-! ## A counted passing in slot and log -/

theorem writeLap_slot (n count : Nat) (lap : Int) (best : Bool) (j : SlotNo) (s : State) :
    slotOf (writeLap n count lap best s) j = slotOf s j := rfl

/-- The slot after the passing `x` is counted holds it as its last local passing, and keeps its activity, feeder passings and
forecast. -/
theorem countPassing_slot (p : Params) (i : SlotNo) (x : NewPassing) (w : Flags) (s : State) :
    (∃ counted, (slotOf (countPassing p i x w s).1 i).last =
        some { number := x.number, instant := x.instant, flags := w, span := x.span, lapCounted := counted }) ∧
      (slotOf (countPassing p i x w s).1 i).lastActivity = (slotOf s i).lastActivity ∧
      (slotOf (countPassing p i x w s).1 i).feeder = (slotOf s i).feeder ∧
      (slotOf (countPassing p i x w s).1 i).confidence = (slotOf s i).confidence := by
  unfold countPassing
  dsimp only
  split
  · rw [writeLap_slot, slotOf_setSlot_same]
    exact ⟨⟨true, rfl⟩, rfl, rfl, rfl⟩
  · rw [slotOf_setSlot_same]
    exact ⟨⟨false, rfl⟩, rfl, rfl, rfl⟩

theorem countPassing_entries (p : Params) (i : SlotNo) (x : NewPassing) (w : Flags) (s : State) :
    EntriesKept s (countPassing p i x w s).1 := by
  unfold countPassing
  dsimp only
  split
  · exact updateLog_entries (n := x.number) (f := fun e => { e with lap := some _ }) (fun _ => rfl) (setSlot i _ s)
  · exact entriesKept_of_log rfl

end Sys2Proof.Machine
end


section
/-! PROOFS. Sections 7.2 and 8.3: a passing that is not from the loop counted in its slot, and the due of a watch (R118, R138, R139,
R148). -/

namespace Sys2Proof.Machine

variable {p : Params} {s t u : State} {i : SlotNo}

/-! ## A passing that is not from the loop -/

theorem offerToTrap_notLoop {x : NewPassing} {w : Flags} (h : x.kind ≠ .loop) : offerToTrap p i x w s = s := by
  unfold offerToTrap
  rw [beq_eq_false_iff_ne.mpr h, Bool.and_false]
  rfl

theorem isRepeat_notLoop {x : NewPassing} (h : x.kind ≠ .loop) (y : Slot) : isRepeat p x y = false := by
  unfold isRepeat
  rw [beq_eq_false_iff_ne.mpr h]
  rfl

theorem processInSlot_notLoop {x : NewPassing} (h : x.kind ≠ .loop) :
    processInSlot p i x s = countAndPair p i x x.flags (logPassing i x x.flags (beforeRepeat p i x s)) :=
  processInSlot_counted (isRepeat_notLoop h _)

theorem offerPassing_entries (n transponder : Nat) (v : Time) (w : Flags) (s : State) :
    EntriesKept s (offerPassing n transponder v w s) := offerHigh_entries _ _ _ s

theorem countAndPair_entries {x : NewPassing} {w : Flags} (h : x.kind ≠ .loop) (s : State) :
    EntriesKept s (countAndPair p i x w s) := by
  let c := removeWatch i (countPassing p i x w s).1
  have hcount : EntriesKept s c := (countPassing_entries p i x w s).trans (entriesKept_of_log rfl)
  let b := (sectorStep p i x c).1
  let v := offerRecords ((countPassing p i x w s).2 ++ (sectorStep p i x c).2) (offerRecord (slotPassingRec p b i x w) b)
  have hlog : v.log = b.log := by
    show (offerRecords _ _).log = _
    rw [offerRecords_frame]
    rfl
  have heq : countAndPair p i x w s = offerPassing x.number x.transponder x.instant w v := by
    unfold countAndPair
    rw [offerToTrap_notLoop h]
  rw [heq]
  exact hcount.trans ((sectorStep_pair p i x c).entries.trans ((entriesKept_of_log hlog).trans (offerPassing_entries _ _ _ _ v)))

theorem countAndPair_slot (p : Params) (i : SlotNo) (x : NewPassing) (w : Flags) (s : State) :
    PairedOf (slotOf (countPassing p i x w s).1 i) (slotOf (countAndPair p i x w s) i) := by
  have hsectors := countAndPair_sectors (p := p) (i := i) (x := x) (w := w) (s := s) (Eq.refl _) (Eq.refl _)
  rw [slotOf_congr hsectors.slots i]
  exact (sectorStep_pair p i x (removeWatch i (countPassing p i x w s).1)).slot

theorem beforeRepeat_moves (p : Params) (i : SlotNo) (x : NewPassing) (s : State) :
    SlotMoves False i s (beforeRepeat p i x s) := by
  unfold beforeRepeat
  split
  · exact .refl
  · exact replaceForecast_moves p (touchSlot_moves .refl)

/-- What the processing of a passing that is not from the loop gives: last local passing, activity, log entry. -/
theorem processInSlot_counts {x : NewPassing} (hk : x.kind ≠ .loop) (hn : ∃ q ∈ s.log.places, q.number = x.number) :
    (∃ counted, (slotOf (processInSlot p i x s) i).last =
        some { number := x.number, instant := x.instant, flags := x.flags, span := x.span, lapCounted := counted }) ∧
      (slotOf (processInSlot p i x s) i).lastActivity = (slotOf (beforeRepeat p i x s) i).lastActivity ∧
      ∃ e, logEntry (processInSlot p i x s) x.number = some e ∧ ResultsOf (entryOf x (some i) x.flags s.now) e := by
  let b := logPassing i x x.flags (beforeRepeat p i x s)
  rw [processInSlot_notLoop hk]
  have hpaired := countAndPair_slot p i x x.flags b
  obtain ⟨⟨counted, hlast⟩, hactivity, -, -⟩ := countPassing_slot p i x x.flags b
  have hentry : logEntry b x.number = some (entryOf x (some i) x.flags s.now) := by
    rw [← beforeRepeat_now p i x s]
    exact logEntry_writeLog_same _ _ _ ((beforeRepeat_moves p i x s).ring.mem hn)
  refine ⟨⟨counted, ?_⟩, ?_, countAndPair_entries hk b _ _ hentry⟩
  · rw [← hlast, hpaired]
  · rw [show (slotOf (beforeRepeat p i x s) i).lastActivity = (slotOf b i).lastActivity from rfl, ← hactivity, hpaired]

/-! ## The FORECAST passing meets its feeder record (R139) -/

theorem countPassing_lists (p : Params) (i : SlotNo) (x : NewPassing) (w : Flags) (s : State) :
    (countPassing p i x w s).1.table.pending = s.table.pending ∧ (countPassing p i x w s).1.table.settle = s.table.settle := by
  unfold countPassing
  dsimp only
  split <;> exact ⟨rfl, rfl⟩

theorem processInSlot_forecast {x : NewPassing} {f : FeederRecord} {v : Time} (hk : x.kind = .forecast) (hf : p.feeders ≠ [])
    (hfeeder : (slotOf s i).feeder = some f) (hv : f.instant = some v) (h0 : 0 < timeDiff x.instant v)
    (h1 : timeDiff x.instant v ≤ (p.maxSector * 1000 : Nat)) (hr : isRunning s = true) (ht : p.settleTime ≠ 0)
    (hp : s.table.pending = []) (hs : s.table.settle = []) :
    (slotOf (processInSlot p i x s) i).feeder = none ∧ (slotOf (processInSlot p i x s) i).spent = some f ∧
      (slotOf (processInSlot p i x s) i).confidence = (slotOf s i).confidence ∧
      (processInSlot p i x s).table.pending = [] ∧
      (processInSlot p i x s).table.settle = [settleEntryOf p i (pairOf p x.number x.instant f v true) s.now] := by
  let b := logPassing i x x.flags s
  let c := removeWatch i (countPassing p i x x.flags b).1
  have hnot : x.kind ≠ .loop := by
    rw [hk]
    exact PassingKind.noConfusion
  obtain ⟨-, -, hcfeeder, hcconf⟩ := countPassing_slot p i x x.flags b
  obtain ⟨hcp, hcs⟩ := countPassing_lists p i x x.flags b
  have hspares := countPassing_spares p i x x.flags b
  have hpair := sectorStep_meets (s := c) hf (pendingOf_of_nil i (hcp.trans hp)) (hcfeeder.trans hfeeder) hv h0 h1
    ((isRunning_of_spares hspares).trans hr) ht (hcs.trans hs)
  rw [hk, show (PassingKind.forecast == PassingKind.forecast) = true from rfl, Bool.or_true, if_pos rfl,
    show c.now = s.now from hspares.now] at hpair
  obtain ⟨hslots, hpending, hsettle⟩ := countAndPair_sectors (s := b) (Eq.refl _) hpair
  have heq : processInSlot p i x s = countAndPair p i x x.flags b := by
    rw [processInSlot_notLoop hnot, show beforeRepeat p i x s = s from if_pos hk]
  rw [heq]
  have hslot : slotOf (countAndPair p i x x.flags b) i = { slotOf c i with feeder := none, spent := some f } := by
    rw [slotOf_congr hslots i]
    refine (slotOf_congr (s := setSpent i (some f) (setFeeder i none c)) rfl i).trans ?_
    unfold setSpent setFeeder
    rw [slotOf_setSlot_same, slotOf_setSlot_same]
  refine ⟨?_, ?_, ?_, hpending.trans (hcp.trans hp), hsettle.trans (addSettle_first _ (hcs.trans hs))⟩
  · rw [hslot]
  · rw [hslot]
  · rw [hslot]
    exact hcconf

/-! ## The due of a watch (R138, R148) -/

theorem SlotMove.watch (h : SlotMove False i s t) (hw : s.table.watch = []) : t.table.watch = [] := by
  cases h with
  | noticed n o _ => exact (offerHigh_same _ _ _ s).watch.trans hw
  | revised n tr r => exact (offerRevision_same _ _ _ s).watch.trans hw
  | watchRemoved => exact filter_of_nil hw
  | watchAdded h _ _ _ => exact h.elim
  | _ => exact hw

theorem SlotMoves.watch (h : SlotMoves False i s t) (hw : s.table.watch = []) : t.table.watch = [] := by
  induction h with
  | refl => exact hw
  | tail _ hm ih => exact hm.watch ih

theorem drawNumber_below {n : Nat} (hc : s.log.counter = some n) (hn : n < 4294967295) :
    drawNumber s = (some n, { s with log := drawBlock n s.log }) := by
  obtain ⟨hnone, -⟩ | ⟨k, hk, -, he⟩ | ⟨k, hk, hge, -⟩ := drawNumber_cases s
  · exact nomatch hc.symm.trans hnone
  · cases hc.symm.trans hk
    exact he
  · cases hc.symm.trans hk
    omega

/-- The due of a watch whose slot holds the feeder record that armed it makes a forecast. -/
theorem expireWatch_forecasts {w : Watch} {f : FeederRecord} {v : Time} (hw : s.table.watch = [w]) (hi : w.slot = i)
    (hf : (slotOf s i).feeder = some f) (ht : f.tag = w.tag) (hv : f.instant = some v) :
    expireWatch p i s = makeForecast p i w v { s with table := { s.table with watch := [] } } := by
  have hof : watchOf s i = some w := by
    unfold watchOf
    rw [hw]
    exact List.find?_cons_of_pos (beq_iff_eq.mpr hi)
  have hremove : removeWatch i s = { s with table := { s.table with watch := [] } } := by
    have hfilter : s.table.watch.filter (fun e => e.slot != i) = [] := by
      rw [← hi]
      exact filter_singleton_slot hw
    exact congrArg (fun l => { s with table := { s.table with watch := l } }) hfilter
  unfold expireWatch
  rw [hof]
  dsimp only
  rw [hremove, show (slotOf { s with table := { s.table with watch := [] } } i).feeder = some f from hf]
  dsimp only
  rw [hv]
  exact if_pos ht

theorem halveConfidence_slot (i : SlotNo) (s : State) :
    slotOf (halveConfidence i s) i = { slotOf s i with confidence := (slotOf s i).confidence / 2 } := slotOf_setSlot_same _ _ _

theorem halveConfidence_moves (i : SlotNo) (s : State) : SlotMoves False i s (halveConfidence i s) :=
  setSlot_moves .refl (slotKept_of_eq rfl rfl rfl rfl rfl)

theorem makeForecast_watch (p : Params) (i : SlotNo) (w : Watch) (v : Time) (hw : s.table.watch = []) :
    (makeForecast p i w v s).table.watch = [] := by
  obtain ⟨u, hsame, hmoves⟩ := makeForecast_chain (p := p) i w v s
  exact SlotMoves.watch hmoves (hsame.watch.trans hw)

/-- The flags of a value in range, with the min sector as a number. -/
theorem isShort_natCast (p : Params) (v : Nat) : isShort p (v : Int) = decide (v < p.minSector * 1000) := by
  unfold isShort
  exact decide_eq_decide.mpr Nat.cast_lt

/-- Settles O46: the forecast passing is processed as the number it draws, and a nearer passing withdraws it in its slot. -/
theorem watchDueMakesAForecastPassing : Obligations.WatchDueMakesAForecastPassing := by
  refine ⟨fun p i w f v s hc hfeeders hw hi hf htag hv => ?due, fun p i x l span s hl hspan hflag => ?nearer⟩
  case due =>
    let r : State := { s with table := { s.table with watch := [] } }
    have hmake : expireWatch p i s = makeForecast p i w v r := expireWatch_forecasts hw hi hf htag hv
    rw [hmake]
    refine ⟨makeForecast_watch p i w v rfl, fun hnone => ?exhausted, fun n hn hlt => ?drawn⟩
    case exhausted =>
      have hdraw : drawNumber r = (none, r) := by
        unfold drawNumber
        rw [show r.log.counter = none from hnone]
      unfold makeForecast
      rw [hdraw]
    case drawn =>
      let d : State := { r with log := drawBlock n r.log }
      let x := forecastPassing d i w n v
      let y := processInSlot p i x d
      have hdrawn : makeForecast p i w v r = halveConfidence i y := by
        unfold makeForecast
        rw [drawNumber_below (s := r) hn hlt]
      have hmoves : SlotMoves False i d (halveConfidence i y) := (processInSlot_moves p .refl).trans (halveConfidence_moves i y)
      have hplace : ∃ q ∈ d.log.places, q.number = x.number := ⟨{ number := n, entry := none }, (mem_drawBlock _).mpr (.inr rfl), rfl⟩
      obtain ⟨⟨counted, hlast⟩, hactivity, e, he, hresults⟩ :=
        processInSlot_counts (p := p) (i := i) (s := d) (x := x) PassingKind.noConfusion hplace
      have hbefore : beforeRepeat p i x d = d := if_pos rfl
      have hslot := halveConfidence_slot i y
      rw [hdrawn]
      refine ⟨hmoves.ring.counter.trans (drawBlock_counter hlt), ?_, hmoves.kept.2, ⟨counted, ?_⟩, ⟨e, he, ?_⟩,
        fun hm h0 hmax hbound hsettle hp hs => ?paired⟩
      · rw [hslot]
        exact hactivity.trans ((congrArg (fun a => (slotOf a i).lastActivity) hbefore).trans rfl)
      · rw [hslot]
        exact hlast
      · rw [hresults]
        exact ⟨rfl, rfl, rfl, rfl⟩
      case paired =>
        have hdiff : timeDiff x.instant v = w.expected := timeDiff_later v w.expected (by omega)
        obtain ⟨hfeeder, hspent, hconf, hpending, hlist⟩ :=
          processInSlot_forecast (p := p) (i := i) (s := d) (x := x) rfl hfeeders hf hv (by rw [hdiff]; omega) (by rw [hdiff]; omega)
            (isRunning_of_mode hc hm) hsettle hp hs
        have hpair : settleEntryOf p i (pairOf p n x.instant f v true) s.now =
            { slot := i, number := n, instant := later v w.expected, retimed := false, tag := w.tag, feederInstant := v,
              sector := w.expected,
              flags := sectorFlags (decide (w.expected < p.minSector * 1000)) (decide (f.clock = .soft)) true,
              hold := .held, expiry := later s.now (p.settleTime * 1000), due := false } := by
          unfold settleEntryOf pairOf
          rw [hdiff, isShort_natCast, clock_soft_eq, htag]
          rfl
        rw [hslot]
        refine ⟨hfeeder, hspent, ?_, hpending, hlist.trans (congrArg (fun z => [z]) hpair)⟩
        show (slotOf y i).confidence / 2 = _
        rw [hconf]
        rfl
  case nearer =>
    intro t
    have ht := replaceForecast_spanned (p := p) (x := x) hl hspan
    refine ⟨fun hfar => ht.trans (if_neg (Nat.not_lt.mpr hfar)), fun hnear hp hs => ?_⟩
    obtain ⟨hentry, hpending, hsettle, hlast, hfrom⟩ := replaceForecast_replaces (p := p) (x := x) hl hspan hflag hnear hp hs
    have hnumber : (slotOf s i).last.map (·.number) = some l.number := by rw [hl]; rfl
    obtain ⟨hreverted, hprevious, hbest, hlap⟩ := hfrom.wasLast hnumber
    obtain ⟨hfeeder, hspent⟩ := hfrom.restored hlast
    have hmoves : SlotMoves False i s t := replaceForecast_moves p .refl
    exact ⟨(replaceForecast_spares p i x s).frame, hmoves.kept.2, hentry, hpending, hsettle, hfeeder, hspent, hprevious,
      hreverted, hfrom.lapCount, hbest, hlap⟩

end Sys2Proof.Machine
end


section
/-! PROOFS. Sections 5.4 and 7.6: the revisions offered to the line, and the WITHDRAW of the host at its grant (R83, R84, R127,
R128). -/

namespace Sys2Proof.Machine

variable {p : Params} {s t : State} {i : SlotNo}

/-! ## A revision on the line (R83, R84) -/

/-- A revision of an entry that owes a notice acts on its mark. -/
theorem offerRevision_owed {x transponder : Nat} {r : Revision} {e : LogEntry} {o : Owed} (he : logEntry s x = some e)
    (ho : e.unsent = some o) : offerRevision x transponder r s = reviseUnsent x r o s := by
  unfold offerRevision
  rw [he, Option.bind_some, ho]

theorem unsent_none {x : Nat} (h : ∀ e, logEntry s x = some e → e.unsent = none) :
    (logEntry s x).bind (·.unsent) = none := by
  cases he : logEntry s x with
  | none => rfl
  | some e => exact h e he

/-- A revision that no notice of the queue refers to is a new REVISE notice. -/
theorem offerRevision_new {x transponder : Nat} {r : Revision} (hu : ∀ e, logEntry s x = some e → e.unsent = none)
    (hq : s.line.queue.any (refersTo x) = false) :
    offerRevision x transponder r s = offerHigh x (.revise x transponder r) .revise s := by
  unfold offerRevision
  rw [unsent_none hu]
  dsimp only
  rw [hq]
  rfl

theorem offerHigh_room {n : Nat} {b : NoticeBody} {o : Owed} (h : s.line.queue.length < 24) :
    offerHigh n b o s = settleLine (setQueue (enqueue (freshNotice b .high s.now) s.line.queue) s) := by
  obtain ⟨-, he⟩ | ⟨hfull, -⟩ := offerHigh_cases n b o s
  · exact he
  · exact absurd h (Nat.not_lt.mpr hfull)

theorem offerHigh_full {n : Nat} {b : NoticeBody} {o : Owed} (h : 24 ≤ s.line.queue.length) :
    offerHigh n b o s = markUnsent n o s := by
  obtain ⟨hroom, -⟩ | ⟨-, he⟩ := offerHigh_cases n b o s
  · exact absurd hroom (Nat.not_lt.mpr h)
  · exact he

/-- The first notice that refers to the passing takes the revision: its follow-on, its change, or its removal. -/
theorem reviseQueue_split {x : Nat} {r : Revision} {n : Notice} {before : List Notice} (after : List Notice)
    (hn : refersTo x n = true) (hb : ∀ m ∈ before, refersTo x m = false) :
    reviseQueue x r (before ++ n :: after) =
      if n.inTransmission then (before ++ { n with followOn := some r } :: after, false)
      else match reviseNotice r n with
        | some m => (before ++ m :: after, false)
        | none => (before ++ after, true) := by
  induction before with
  | nil =>
    rw [List.nil_append, reviseQueue, if_pos hn]
    split
    · rfl
    · cases reviseNotice r n <;> rfl
  | cons m before ih =>
    have hm : ¬ refersTo x m = true := by
      rw [hb m List.mem_cons_self]
      exact Bool.false_ne_true
    rw [List.cons_append, reviseQueue, if_neg hm, ih fun k hk => hb k (List.mem_cons_of_mem m hk)]
    split
    · rfl
    · cases reviseNotice r n <;> rfl

section
variable {x transponder : Nat} {r : Revision} {n : Notice} {before after : List Notice}
  (hu : ∀ e, logEntry s x = some e → e.unsent = none) (hq : s.line.queue = before ++ n :: after) (hn : refersTo x n = true)
include hu hq hn

/-- A revision that a notice of the queue takes. -/
theorem offerRevision_taken {q : List Notice} {removed : Bool} (hr : reviseQueue x r (before ++ n :: after) = (q, removed)) :
    offerRevision x transponder r s = if removed then settleLine (pullUnsent (setQueue q s)) else setQueue q s := by
  have hany : s.line.queue.any (refersTo x) = true := by
    rw [hq]
    exact List.any_eq_true.mpr ⟨n, List.mem_append_right _ List.mem_cons_self, hn⟩
  unfold offerRevision
  rw [unsent_none hu]
  dsimp only
  rw [if_pos hany, hq, hr]

theorem offerRevision_followOn (hb : ∀ m ∈ before, refersTo x m = false) (ht : n.inTransmission = true) :
    offerRevision x transponder r s = setQueue (before ++ { n with followOn := some r } :: after) s :=
  offerRevision_taken hu hq hn ((reviseQueue_split after hn hb).trans (if_pos ht))

theorem offerRevision_changed (hb : ∀ m ∈ before, refersTo x m = false) {m : Notice} (ht : n.inTransmission = false)
    (hm : reviseNotice r n = some m) : offerRevision x transponder r s = setQueue (before ++ m :: after) s := by
  refine offerRevision_taken hu hq hn ((reviseQueue_split after hn hb).trans ?_) (removed := false)
  rw [if_neg (by rw [ht]; exact Bool.false_ne_true), hm]

theorem offerRevision_removed (hb : ∀ m ∈ before, refersTo x m = false) (ht : n.inTransmission = false)
    (hm : reviseNotice r n = none) (hz : unsentCount s = 0) :
    offerRevision x transponder r s = settleLine (setQueue (before ++ after) s) := by
  have hsplit : reviseQueue x r (before ++ n :: after) = (before ++ after, true) := by
    rw [reviseQueue_split after hn hb, if_neg (by rw [ht]; exact Bool.false_ne_true), hm]
  rw [offerRevision_taken hu hq hn hsplit]
  exact congrArg settleLine (pullUnsent_nothing (s := setQueue (before ++ after) s) (.inl hz))

end

/-- The part of O47 about the revisions offered to the line. -/
theorem revision_reaches_line (x transponder : Nat) (r : Revision) (s : State) :
    (∀ e o, logEntry s x = some e → e.unsent = some o →
      offerRevision x transponder r s = { s with log := (offerRevision x transponder r s).log } ∧
        (o = .passing → r = .withdraw → logEntry (offerRevision x transponder r s) x = some { e with unsent := none }) ∧
        (o = .revise ∨ r ≠ .withdraw → offerRevision x transponder r s = s)) ∧
    ((∀ e, logEntry s x = some e → e.unsent = none) → (∀ m ∈ s.line.queue, refersTo x m = false) →
      (∀ high low, s.line.queue = high ++ low → (∀ m ∈ high, m.cls = .high) → (∀ m ∈ low, m.cls ≠ .high) →
        s.line.queue.length < 24 →
        offerRevision x transponder r s = { s with line := (offerRevision x transponder r s).line } ∧
          (offerRevision x transponder r s).line.queue = high ++ freshNotice (.revise x transponder r) .high s.now :: low) ∧
      (24 ≤ s.line.queue.length → ∀ e, logEntry s x = some e →
        offerRevision x transponder r s = { s with log := (offerRevision x transponder r s).log } ∧
          logEntry (offerRevision x transponder r s) x = some { e with unsent := some .revise })) := by
  refine ⟨fun e o he ho => ?owed, fun hu hnone => ?new⟩
  case owed =>
    rw [offerRevision_owed he ho]
    unfold reviseUnsent
    split
    · exact ⟨rfl, fun _ _ => logEntry_updated he, fun h => h.elim (fun hr => nomatch hr) fun hr => absurd rfl hr⟩
    next hother => exact ⟨rfl, fun hp hw => (hother hp hw).elim, fun _ => rfl⟩
  case new =>
    have hq : s.line.queue.any (refersTo x) = false := by
      rw [List.any_eq_false]
      exact fun m hm => by rw [hnone m hm]; exact Bool.false_ne_true
    rw [offerRevision_new hu hq]
    refine ⟨fun high low hsplit hhigh hlow hroom => ?_, fun hfull e he => ?_⟩
    · rw [offerHigh_room hroom, (settleLine_frame _).2]
      refine ⟨(settleLine_frame _).1, ?_⟩
      show enqueue _ s.line.queue = _
      rw [hsplit]
      exact enqueue_high rfl hhigh hlow
    · rw [offerHigh_full hfull]
      exact ⟨rfl, logEntry_updated he⟩

/-! ## WITHDRAW at its grant (R127, R128) -/

theorem findInLog_entry {n : Nat} {e : LogEntry} (h : logEntry s n = some e) : findInLog s n = .entry e := by
  unfold findInLog
  rw [h]

theorem findInLog_none {n : Nat} (h : logEntry s n = none) : findInLog s n = if isGone s.log n then .gone else .notYet := by
  unfold findInLog
  rw [h]

theorem isGone_iff (b : LogBlock) (n : Nat) : isGone b n = true ↔ ∃ k, latestDrawn b = some k ∧ n + 2048 ≤ k := by
  unfold isGone
  cases h : latestDrawn b with
  | none => simp
  | some k => simp [Config.logPlaces]

theorem grantWithdraw_withdrawn {n : Nat} {e : LogEntry} (h : logEntry s n = some e) (hw : e.withdrawn = true) :
    grantWithdraw p n s = (⟨.refusedState, .nothing⟩, s) := by
  unfold grantWithdraw
  rw [findInLog_entry h]
  exact if_pos hw

theorem grantWithdraw_gone {n : Nat} (h : logEntry s n = none) (hk : ∃ k, latestDrawn s.log = some k ∧ n + 2048 ≤ k) :
    grantWithdraw p n s = (⟨.gone, .nothing⟩, s) := by
  unfold grantWithdraw
  rw [findInLog_none h, if_pos ((isGone_iff _ _).mpr hk)]
  rfl

theorem grantWithdraw_notYet {n : Nat} (h : logEntry s n = none) (hk : ∀ k, latestDrawn s.log = some k → k < n + 2048) :
    grantWithdraw p n s = (⟨.notYet, .nothing⟩, s) := by
  have hgone : ¬ isGone s.log n = true := fun hg => by
    obtain ⟨k, hl, hle⟩ := (isGone_iff _ _).mp hg
    exact absurd (hk k hl) (Nat.not_lt.mpr hle)
  unfold grantWithdraw
  rw [findInLog_none h, if_neg hgone]
  rfl

/-- An accepted WITHDRAW outside the table. -/
def withdrawnOutside (n : Nat) (e : LogEntry) (s : State) : State :=
  withdrawOutside n e.transponder (amendPassingRec s e .withdrawn) s

theorem grantWithdraw_unslotted {n : Nat} {e : LogEntry} (h : logEntry s n = some e) (hw : e.withdrawn = false)
    (hs : slotOfPassing s e = none) : grantWithdraw p n s = (⟨.ok, .nothing⟩, withdrawnOutside n e s) := by
  unfold grantWithdraw
  rw [findInLog_entry h]
  dsimp only
  rw [hw, hs]
  rfl

theorem grantWithdraw_slotted {n : Nat} {e : LogEntry} (h : logEntry s n = some e) (hw : e.withdrawn = false)
    (hs : slotOfPassing s e = some i) :
    grantWithdraw p n s = (⟨.ok, .nothing⟩, withdrawInSlot p i n e.lap.isSome (withdrawnOutside n e s)) := by
  unfold grantWithdraw
  rw [findInLog_entry h]
  dsimp only
  rw [hw, hs]
  rfl

/-- An operation that spares the rest and the table changes log, report port and line alone. -/
theorem SparesRest.frame_of_table (h : SparesRest s t) (ht : t.table = s.table) :
    t = { s with log := t.log, report := t.report, line := t.line } := by
  refine h.frame.trans ?_
  rw [ht]

theorem withdrawnOutside_frame (n : Nat) (e : LogEntry) (s : State) : withdrawnOutside n e s = { s with
    log := (withdrawnOutside n e s).log, report := (withdrawnOutside n e s).report, line := (withdrawnOutside n e s).line } :=
  (withdrawOutside_spares n e.transponder _ s).frame_of_table (withdrawOutside_table _ _ _ s)

theorem withdrawnOutside_entry {n : Nat} {e : LogEntry} (h : logEntry s n = some e) :
    ∃ e', logEntry (withdrawnOutside n e s) n = some e' ∧ e'.withdrawn = true := by
  obtain ⟨e', he, hr⟩ := withdrawOutside_entry (transponder := e.transponder) (b := amendPassingRec s e .withdrawn) h
  exact ⟨e', he, congrArg LogEntry.withdrawn hr⟩

/-- A passing without a slot, without a notice in the queue: log entry and AMEND record. -/
theorem withdrawnOutside_alone {n : Nat} {e : LogEntry} (h : logEntry s n = some e) (hn : e.number = n) (hslot : e.slot = none)
    (hu : e.unsent = none) (hq : s.line.queue.any (refersTo n) = false) (hroom : s.line.queue.length < 24)
    (hfifo : s.report.fifo.length < 128) :
    logEntry (withdrawnOutside n e s) n = some { e with withdrawn := true } ∧
      (withdrawnOutside n e s).report.fifo = s.report.fifo ++
        [{ issued := s.now,
           body := .amend { slot := none, transponder := e.transponder, competitor := 0, number := n, what := .withdrawn } }] := by
  let a := updateLog n markWithdrawn s
  have hentry : logEntry a n = some (markWithdrawn e) := logEntry_updated h
  let b := offerRevision n e.transponder .withdraw a
  have hb : b = settleLine (setQueue (enqueue (freshNotice (.revise n e.transponder .withdraw) .high s.now) s.line.queue) a) :=
    (offerRevision_new (s := a) (fun f hf => by cases hentry.symm.trans hf; exact hu) hq).trans (offerHigh_room (s := a) hroom)
  have hlog : b.log = a.log := by
    rw [hb, (settleLine_frame _).1]
    rfl
  have hreport : b.report = s.report := by
    rw [hb, (settleLine_frame _).1]
    rfl
  have hnow : b.now = s.now := by
    rw [hb, (settleLine_frame _).1]
    rfl
  have hrec : amendPassingRec s e .withdrawn =
      .amend { slot := none, transponder := e.transponder, competitor := 0, number := n, what := .withdrawn } := by
    unfold amendPassingRec slotOfPassing
    rw [hslot, hn]
    rfl
  have hdone : withdrawnOutside n e s = offerRecord (amendPassingRec s e .withdrawn) b := rfl
  rw [hdone, hrec]
  refine ⟨(logEntry_congr (s := a) hlog n).trans hentry, ?_⟩
  rw [offerRecord_into (s := b) (by rw [hreport]; exact hfifo), hreport, hnow]

/-- The part of O47 about an accepted WITHDRAW in a slot. -/
theorem withdraw_in_slot {n : Nat} {e : LogEntry} (h : logEntry s n = some e) (hp : (s.table.pending.map (·.slot)).Nodup)
    (hs : (s.table.settle.map (·.slot)).Nodup) :
    (∃ e', logEntry (withdrawInSlot p i n e.lap.isSome (withdrawnOutside n e s)) n = some e' ∧ e'.withdrawn = true) ∧
      (∀ x ∈ (withdrawInSlot p i n e.lap.isSome (withdrawnOutside n e s)).table.pending, x.slot = i → x.number ≠ n) ∧
      (∀ x ∈ (withdrawInSlot p i n e.lap.isSome (withdrawnOutside n e s)).table.settle, x.slot = i → x.number ≠ n) ∧
      WithdrawnFrom n e.lap.isSome (slotOf s i) (slotOf (withdrawInSlot p i n e.lap.isSome (withdrawnOutside n e s)) i) := by
  have htable : (withdrawnOutside n e s).table = s.table := withdrawOutside_table _ _ _ s
  obtain ⟨e', he, hw⟩ := withdrawnOutside_entry h
  have hslot := withdrawInSlot_slot p i n e.lap.isSome (withdrawnOutside n e s)
  rw [slotOf_congr (congrArg TableBlock.slots htable) i] at hslot
  obtain ⟨-, hentries, hpending, hsettle⟩ := withdrawInSlot_effect p i n e.lap.isSome (withdrawnOutside n e s)
  rw [htable] at hpending hsettle
  obtain ⟨f, hf, hr⟩ := hentries n e' he
  exact ⟨⟨f, hf, (congrArg LogEntry.withdrawn hr).trans hw⟩, hpending hp, hsettle hs, hslot⟩

end Sys2Proof.Machine
end


section
/-! PROOFS. Section 7.6: the RETIME and the MARK of the host at their grants (R127, R129, R130, R148). -/

namespace Sys2Proof.Machine

variable {p : Params} {s t : State} {i : SlotNo}

/-! ## RETIME (R129) -/

/-- An accepted RETIME outside the table. -/
def retimedOutside (n : Nat) (u : Time) (e : LogEntry) (s : State) : State :=
  offerRecord (amendPassingRec s e (.retimed u)) (offerRevision n e.transponder (.retime u) (updateLog n (retimeEntry u) s))

theorem retimedOutside_table (n : Nat) (u : Time) (e : LogEntry) (s : State) : (retimedOutside n u e s).table = s.table := by
  show (offerRevision n e.transponder (.retime u) (updateLog n (retimeEntry u) s)).table = s.table
  rw [offerRevision_frame]
  rfl

theorem retimedOutside_entry {n : Nat} {u : Time} {e : LogEntry} (h : logEntry s n = some e) :
    ∃ e', logEntry (retimedOutside n u e s) n = some e' ∧ ResultsOf (retimeEntry u e) e' :=
  offerRevision_entries n e.transponder (.retime u) (updateLog n (retimeEntry u) s) n _ (logEntry_updated h)

/-- The slot with the lap of a retimed passing: its lap times, where the passing counted a lap. -/
theorem retimeLap_slot (i : SlotNo) (n : Nat) (u : Time) (e : LogEntry) (s : State) :
    slotOf (retimeLap i n u e s) i = { slotOf s i with
        lastLap := (slotOf (retimeLap i n u e s) i).lastLap, bestLap := (slotOf (retimeLap i n u e s) i).bestLap } ∧
      ∀ k v, e.lap ≠ none → (slotOf s i).previous = some (k, v) →
        (slotOf (retimeLap i n u e s) i).lastLap = some (timeDiff u v) := by
  unfold retimeLap
  split
  next l k v hlap hprevious =>
    let y := setSlot i (retimedLaps (timeDiff u v) (slotOf s i)) s
    have hslot : slotOf (offerRecord (amendLapRec y i n (addFlagIf (beatsBest (timeDiff u v) (slotOf s i).bestBefore) 0 .best))
        (writeLap n l.count (timeDiff u v) (beatsBest (timeDiff u v) (slotOf s i).bestBefore) y)) i =
        retimedLaps (timeDiff u v) (slotOf s i) :=
      (slotOf_congr (s := y) rfl i).trans (slotOf_setSlot_same s i _)
    dsimp only
    rw [hslot]
    refine ⟨rfl, fun k' v' _ hp => ?_⟩
    cases hprevious.symm.trans hp
    rfl
  next hother =>
    refine ⟨rfl, fun k v hlap hp => ?_⟩
    cases hl : e.lap with
    | none => exact absurd hl hlap
    | some l => exact (hother l k v hl hp).elim

theorem retimeLap_entries (i : SlotNo) (n : Nat) (u : Time) (e : LogEntry) (s : State) : EntriesKept s (retimeLap i n u e s) := by
  unfold retimeLap
  split
  next l k v _ _ =>
    let y := setSlot i (retimedLaps (timeDiff u v) (slotOf s i)) s
    let lap : LapResult := { count := l.count, time := timeDiff u v, best := beatsBest (timeDiff u v) (slotOf s i).bestBefore }
    exact (entriesKept_of_log (s := s) (t := y) rfl).trans
      ((updateLog_entries (n := n) (f := fun e => { e with lap := some lap }) (fun _ => rfl) y).trans (entriesKept_of_log rfl))
  · exact .refl s

theorem retimeLap_lists (i : SlotNo) (n : Nat) (u : Time) (e : LogEntry) (s : State) :
    (retimeLap i n u e s).table.pending = s.table.pending ∧ (retimeLap i n u e s).table.settle = s.table.settle := by
  unfold retimeLap
  split <;> exact ⟨rfl, rfl⟩

theorem retimeIssued_work (p : Params) (i : SlotNo) (n : Nat) (former u : Time) (s : State) :
    SectorWork i s (retimeIssued p i n former u s) := by
  unfold retimeIssued
  split
  · exact .refl i s
  · split
    · exact .refl i s
    · split
      · dsimp only
        split <;> exact amendSector_work _ _ _ _ _ s
      · exact .refl i s

theorem retimeIssued_lists (p : Params) (i : SlotNo) (n : Nat) (former u : Time) (s : State) :
    (retimeIssued p i n former u s).table.pending = s.table.pending ∧
      (retimeIssued p i n former u s).table.settle = s.table.settle := by
  unfold retimeIssued
  split
  · exact ⟨rfl, rfl⟩
  · split
    · exact ⟨rfl, rfl⟩
    · split
      · dsimp only
        split <;> exact ⟨rfl, rfl⟩
      · exact ⟨rfl, rfl⟩

/-- The state of an accepted RETIME before its pending, settle and issued sectors take the new instant. -/
def retimedLast (i : SlotNo) (n : Nat) (u : Time) (e : LogEntry) (s : State) : State :=
  retimeLap i n u e (setSlot i (retimeLast u (slotOf (retimedOutside n u e s) i)) (retimedOutside n u e s))

theorem retimedLast_slot (i : SlotNo) (n : Nat) (u : Time) (e : LogEntry) (s : State) :
    slotOf (retimedLast i n u e s) i = { retimeLast u (slotOf s i) with
        lastLap := (slotOf (retimedLast i n u e s) i).lastLap, bestLap := (slotOf (retimedLast i n u e s) i).bestLap } ∧
      ∀ k v, e.lap ≠ none → (slotOf s i).previous = some (k, v) →
        (slotOf (retimedLast i n u e s) i).lastLap = some (timeDiff u v) := by
  let a := retimedOutside n u e s
  let b := setSlot i (retimeLast u (slotOf a i)) a
  have hslot : slotOf b i = retimeLast u (slotOf s i) := by
    rw [show slotOf b i = _ from slotOf_setSlot_same a i _, slotOf_congr (congrArg TableBlock.slots (retimedOutside_table n u e s)) i]
  obtain ⟨hlap, htime⟩ := retimeLap_slot i n u e b
  rw [hslot] at hlap htime
  exact ⟨hlap, htime⟩

theorem retimedLast_entry {n : Nat} {u : Time} {e : LogEntry} (h : logEntry s n = some e) :
    ∃ e', logEntry (retimedLast i n u e s) n = some e' ∧ ResultsOf (retimeEntry u e) e' := by
  obtain ⟨f, hf, hr⟩ := retimedOutside_entry (u := u) h
  let b := setSlot i (retimeLast u (slotOf (retimedOutside n u e s) i)) (retimedOutside n u e s)
  obtain ⟨g, hg, hr'⟩ := retimeLap_entries i n u e b n f hf
  exact ⟨g, hg, hr.trans hr'⟩

theorem retimedLast_lists (i : SlotNo) (n : Nat) (u : Time) (e : LogEntry) (s : State) :
    (retimedLast i n u e s).table.pending = s.table.pending ∧ (retimedLast i n u e s).table.settle = s.table.settle := by
  let a := retimedOutside n u e s
  have htable : a.table = s.table := retimedOutside_table n u e s
  have hpending : a.table.pending = s.table.pending := by rw [htable]
  have hsettle : a.table.settle = s.table.settle := by rw [htable]
  obtain ⟨hp, hs⟩ := retimeLap_lists i n u e (setSlot i (retimeLast u (slotOf a i)) a)
  exact ⟨hp.trans hpending, hs.trans hsettle⟩

/-- The part of O47 about an accepted RETIME. -/
theorem retimePassing_effect {n : Nat} {u : Time} {e : LogEntry} (h : logEntry s n = some e) :
    (∃ e', logEntry (retimePassing p i n u e s) n = some e' ∧ ResultsOf (retimeEntry u e) e') ∧
      (∃ y, y = { retimeLast u (slotOf s i) with lastLap := y.lastLap, bestLap := y.bestLap } ∧
        (∀ k v, e.lap ≠ none → (slotOf s i).previous = some (k, v) → y.lastLap = some (timeDiff u v)) ∧
        SectorOf y (slotOf (retimePassing p i n u e s) i)) ∧
      (retimePassing p i n u e s).table.pending =
        s.table.pending.map (fun y => if y.slot = i ∧ y.number = n then { y with instant := u } else y) ∧
      (retimePassing p i n u e s).table.settle =
        s.table.settle.map (fun y => if y.slot = i ∧ y.number = n then { y with instant := u, retimed := true } else y) := by
  let b := retimedLast i n u e s
  let c := retimeSettle i n u (retimePending i n u b)
  have ht : retimePassing p i n u e s = retimeTrap i n u (retimeIssued p i n e.instant u c) := rfl
  obtain ⟨f, hf, hr⟩ := retimedLast_entry (i := i) (u := u) h
  obtain ⟨hslot, htime⟩ := retimedLast_slot i n u e s
  obtain ⟨hbp, hbs⟩ := retimedLast_lists i n u e s
  have hwork := retimeIssued_work p i n e.instant u c
  obtain ⟨hip, his⟩ := retimeIssued_lists p i n e.instant u c
  rw [ht]
  refine ⟨?_, ⟨slotOf b i, hslot, htime, hwork.slot⟩, ?_, ?_⟩
  · obtain ⟨g, hg, hr'⟩ := hwork.entries n f hf
    exact ⟨g, hg, hr.trans hr'⟩
  · show (retimeIssued p i n e.instant u c).table.pending = _
    rw [hip, ← hbp]
    rfl
  · show (retimeIssued p i n e.instant u c).table.settle = _
    rw [his, ← hbs]
    rfl

theorem grantRetime_unslotted {n : Nat} {u : Time} {e : LogEntry} (h : logEntry s n = some e) (hs : slotOfPassing s e = none) :
    grantRetime p n u s = (⟨.refusedState, .nothing⟩, s) := by
  unfold grantRetime
  rw [findInLog_entry h]
  dsimp only
  rw [hs]
  rfl

theorem slotOfPassing_unslotted {e : LogEntry} (h : e.slot = none) : slotOfPassing s e = none := by
  unfold slotOfPassing
  rw [h]

/-- A RETIME of a WITHDRAWN passing, or of one without a slot, is refused. -/
theorem grantRetime_refused {n : Nat} {u : Time} {e : LogEntry} (h : logEntry s n = some e)
    (hr : e.withdrawn = true ∨ e.slot = none) : grantRetime p n u s = (⟨.refusedState, .nothing⟩, s) := by
  cases hs : slotOfPassing s e with
  | none => exact grantRetime_unslotted h hs
  | some i =>
    have hw : e.withdrawn = true := hr.resolve_right fun hnone => nomatch hs.symm.trans (slotOfPassing_unslotted hnone)
    unfold grantRetime
    rw [findInLog_entry h]
    dsimp only
    rw [hs]
    exact if_pos (by rw [hw]; rfl)

/-- A RETIME of the slot's last local passing is judged on its instant. -/
theorem grantRetime_judged {n : Nat} {u : Time} {e : LogEntry} {l : LastPassing} (h : logEntry s n = some e)
    (hw : e.withdrawn = false) (hs : slotOfPassing s e = some i) (hl : (slotOf s i).last = some l) (hn : l.number = n)
    (hf : hasFlag l.flags .forecast = false) :
    grantRetime p n u s = if badRetime s.now u (slotOf s i) then (⟨.badArgument, .nothing⟩, s)
      else (⟨.ok, .nothing⟩, retimePassing p i n u e s) := by
  have hmay : mayRetime n (slotOf s i) = true := by
    unfold mayRetime
    rw [hl]
    dsimp only
    rw [hn, hf, beq_self_eq_true]
    rfl
  unfold grantRetime
  rw [findInLog_entry h]
  dsimp only
  rw [hs]
  dsimp only
  rw [hw, hmay]
  rfl

theorem badRetime_future {now u : Time} {y : Slot} (h : isBefore now u = true) : badRetime now u y = true := by
  unfold badRetime
  rw [h]
  rfl

theorem badRetime_past {now u : Time} {y : Slot} (h : isBefore now u = false)
    (hp : ∀ k v, y.previous = some (k, v) → isBefore v u = true) : badRetime now u y = false := by
  unfold badRetime
  rw [h, Bool.false_or]
  split
  · rfl
  next k v hq => rw [hp k v hq]; rfl

theorem addFlag_retimed (w : Flags) : addFlag w .retimed = w ||| 256 := rfl

/-- The part of O47 about RETIME. -/
theorem retime_follows_log (p : Params) (n : Nat) (u : Time) (s : State) :
    (∀ e, logEntry s n = some e → e.withdrawn = true ∨ e.slot = none → grantRetime p n u s = (⟨.refusedState, .nothing⟩, s)) ∧
    (∀ e i l, logEntry s n = some e → e.withdrawn = false → slotOfPassing s e = some i → (slotOf s i).last = some l →
      l.number = n → hasFlag l.flags .forecast = false →
      (isBefore s.now u = true → grantRetime p n u s = (⟨.badArgument, .nothing⟩, s)) ∧
      (isBefore s.now u = false → (∀ k v, (slotOf s i).previous = some (k, v) → isBefore v u = true) →
        ∃ t, grantRetime p n u s = (⟨.ok, .nothing⟩, t) ∧
          t = { s with table := t.table, log := t.log, report := t.report, line := t.line } ∧
          (∃ e', logEntry t n = some e' ∧ e'.instant = u ∧ e'.retimed = true ∧ e'.withdrawn = false) ∧
          (∀ j, j ≠ i → slotOf t j = slotOf s j) ∧
          (slotOf t i).last = some { l with instant := u, flags := l.flags ||| 256 } ∧
          (slotOf t i).lapCount = (slotOf s i).lapCount ∧ (slotOf t i).previous = (slotOf s i).previous ∧
          (∀ k v, e.lap ≠ none → (slotOf s i).previous = some (k, v) → (slotOf t i).lastLap = some (timeDiff u v)) ∧
          t.table.pending = s.table.pending.map (fun y => if y.slot = i ∧ y.number = n then { y with instant := u } else y) ∧
          t.table.settle = s.table.settle.map
            (fun y => if y.slot = i ∧ y.number = n then { y with instant := u, retimed := true } else y))) := by
  refine ⟨fun e he hr => grantRetime_refused he hr, fun e i l he hw hs hl hn hf => ?_⟩
  have hjudged := grantRetime_judged (p := p) (u := u) he hw hs hl hn hf
  refine ⟨fun hfuture => hjudged.trans (if_pos (badRetime_future hfuture)), fun hpast hprevious => ?_⟩
  obtain ⟨⟨e', hentry, hresults⟩, ⟨y, hy, htime, hsector⟩, hpending, hsettle⟩ :=
    retimePassing_effect (p := p) (i := i) (u := u) he
  have hmoves : SlotMoves False i s (retimePassing p i n u e s) := retimePassing_moves p .refl
  have hlast : (retimeLast u (slotOf s i)).last = some { l with instant := u, flags := l.flags ||| 256 } := by
    unfold retimeLast
    rw [hl]
    rfl
  refine ⟨retimePassing p i n u e s,
    hjudged.trans (if_neg (by rw [badRetime_past hpast hprevious]; exact Bool.false_ne_true)),
    (retimePassing_spares p i n u e s).frame, ⟨e', hentry, congrArg LogEntry.instant hresults,
      congrArg LogEntry.retimed hresults, (congrArg LogEntry.withdrawn hresults).trans hw⟩, hmoves.kept.2, ?_, ?_, ?_, fun k v hlap hp => ?_,
    hpending, hsettle⟩
  · rw [hsector, hy]
    exact hlast
  · rw [hsector, hy]
    rfl
  · rw [hsector, hy]
    rfl
  · rw [hsector]
    exact htime k v hlap hp

/-! ## MARK (R130) -/

theorem grantMark_future {transponder : Nat} {u : Time} (h : isBefore s.now u = true) :
    grantMark p transponder u s = (⟨.badArgument, .nothing⟩, s) := by
  have hbad : badMark transponder u s = true := by
    unfold badMark
    rw [h]
    rfl
  unfold grantMark
  rw [if_pos hbad]
  rfl

theorem badMark_new {transponder : Nat} {u : Time} (h : isBefore s.now u = false) (hn : slotFor transponder s = none) :
    badMark transponder u s = false := by
  unfold badMark
  rw [h, hn]
  rfl

theorem badMark_later {transponder : Nat} {u : Time} (h : isBefore s.now u = false) (hi : slotFor transponder s = some i)
    (hl : ∀ l, (slotOf s i).last = some l → isBefore l.instant u = true) : badMark transponder u s = false := by
  unfold badMark
  rw [h, hi, Bool.false_or]
  dsimp only
  split
  · rfl
  next l hlast => rw [hl l hlast]; rfl

theorem grantMark_exhausted {transponder : Nat} {u : Time} (hb : badMark transponder u s = false) (hc : s.log.counter = none) :
    grantMark p transponder u s = (⟨.refusedState, .nothing⟩, s) := by
  have hdraw : drawNumber s = (none, s) := by
    unfold drawNumber
    rw [hc]
  unfold grantMark
  rw [hb, if_neg Bool.false_ne_true, hdraw]
  rfl

theorem grantMark_drawn {transponder : Nat} {u : Time} {k : Nat} (hb : badMark transponder u s = false)
    (hc : s.log.counter = some k) (hk : k < 4294967295) :
    grantMark p transponder u s = (⟨.ok, .passingNumber k⟩,
      processPassing p (manualPassing k transponder u) { s with log := drawBlock k s.log }) := by
  unfold grantMark
  rw [hb, if_neg Bool.false_ne_true, drawNumber_below hc hk]
  rfl

/-- The replacement of a forecast passing leaves the slot's activity. -/
theorem replaceForecast_lastActivity (p : Params) (i : SlotNo) (x : NewPassing) (s : State) :
    (slotOf (replaceForecast p i x s) i).lastActivity = (slotOf s i).lastActivity := by
  unfold replaceForecast
  split
  · rfl
  next l _ =>
    split
    · rfl
    · split
      · have htable := withdrawOutside_table l.number (transponderOf s i) (amendRec s i l.number .withdrawn) s
        rw [(withdrawInSlot_slot p i l.number l.lapCounted _).lastActivity,
          slotOf_congr (congrArg TableBlock.slots htable) i]
      · rfl

theorem beforeRepeat_lastActivity {x : NewPassing} (h : x.kind ≠ .forecast) :
    (slotOf (beforeRepeat p i x s) i).lastActivity = some s.now := by
  unfold beforeRepeat
  rw [if_neg h, replaceForecast_lastActivity, touchSlot_slot]

/-- The part of O47 about MARK. -/
theorem mark_makes_passing (p : Params) (transponder : Nat) (u : Time) (s : State) :
    (isBefore s.now u = true → grantMark p transponder u s = (⟨.badArgument, .nothing⟩, s)) ∧
    (isBefore s.now u = false → slotFor transponder s = none → s.log.counter = none →
      grantMark p transponder u s = (⟨.refusedState, .nothing⟩, s)) ∧
    (∀ i k, isBefore s.now u = false → slotFor transponder s = some i →
      (∀ l, (slotOf s i).last = some l → isBefore l.instant u = true) → s.log.counter = some k → k < 4294967295 →
      ∃ t, grantMark p transponder u s = (⟨.ok, .passingNumber k⟩, t) ∧
        t = { s with table := t.table, log := t.log, report := t.report, line := t.line } ∧ t.log.counter = some (k + 1) ∧
        (∃ e, logEntry t k = some e ∧ e.instant = u ∧ e.flags = 128 ∧ e.slot = some i ∧ e.transponder = transponder ∧
          e.peak = none ∧ e.hitCount = none) ∧
        (slotOf t i).lastActivity = some s.now ∧
        (slotOf t i).last.map (fun l => (l.number, l.instant, l.flags, l.span)) = some (k, u, 128, none)) := by
  refine ⟨grantMark_future, fun h hn hc => grantMark_exhausted (badMark_new h hn) hc, fun i k h hi hl hc hk => ?_⟩
  let d : State := { s with log := drawBlock k s.log }
  let x := manualPassing k transponder u
  have hown : processPassing p x d = processInSlot p i x d := processPassing_own ((findSlot_congr _ s d rfl).trans hi)
  have hplace : ∃ q ∈ d.log.places, q.number = x.number := ⟨{ number := k, entry := none }, (mem_drawBlock _).mpr (.inr rfl), rfl⟩
  have hmoves : SlotMoves False i d (processInSlot p i x d) := processInSlot_moves p .refl
  obtain ⟨⟨counted, hlast⟩, hactivity, e, he, hresults⟩ :=
    processInSlot_counts (p := p) (i := i) (s := d) (x := x) PassingKind.noConfusion hplace
  refine ⟨processInSlot p i x d, (grantMark_drawn (badMark_later h hi hl) hc hk).trans ?_, ?_,
    hmoves.ring.counter.trans (drawBlock_counter hk), ⟨e, he, ?_⟩, ?_, ?_⟩
  · rw [← hown]
  · have hdrawn : SparesRest s d := ⟨rfl, rfl, rfl, rfl, rfl, rfl⟩
    exact (hdrawn.trans (processInSlot_spares p i x d)).frame
  · rw [hresults]
    exact ⟨rfl, rfl, rfl, rfl, rfl, rfl⟩
  · exact hactivity.trans (beforeRepeat_lastActivity (s := d) PassingKind.noConfusion)
  · rw [hlast]
    rfl

/-- Settles O47: WITHDRAW and RETIME act by the log entry and its slot, MARK makes a passing of the number it draws, and the
revisions reach the line by the cases of R83 and R84. -/
theorem correctionsFollowTheLog : Obligations.CorrectionsFollowTheLog := by
  refine ⟨fun p n s => ?withdraw, fun p n transponder u s => ?retime, fun x transponder r s => ?revision⟩
  case withdraw =>
    refine ⟨fun e he hw => grantWithdraw_withdrawn he hw, grantWithdraw_gone, grantWithdraw_notYet,
      fun e he hn hw hslot hu hq hroom hfifo => ?alone, fun e he hw hrel => ?released, fun e i he hw hs hp hse => ?slotted⟩
    case alone =>
      obtain ⟨hentry, hrecord⟩ := withdrawnOutside_alone he hn hslot hu hq hroom hfifo
      exact ⟨withdrawnOutside n e s, grantWithdraw_unslotted he hw (slotOfPassing_unslotted hslot),
        withdrawnOutside_frame n e s, hentry, hrecord⟩
    case released =>
      have hnone := slotOfPassing_released s e hrel
      exact ⟨⟨withdrawnOutside n e s, grantWithdraw_unslotted he hw hnone, withdrawnOutside_frame n e s,
        withdrawnOutside_entry he⟩, fun u => grantRetime_unslotted he hnone⟩
    case slotted =>
      obtain ⟨hentry, hpending, hsettle, hfrom⟩ := withdraw_in_slot (p := p) (i := i) he hp hse
      have hgrant := grantWithdraw_slotted (p := p) he hw hs
      have hspares := grantWithdraw_spares p n s
      rw [hgrant] at hspares
      have hmoves : SlotMoves False i s (withdrawInSlot p i n e.lap.isSome (withdrawnOutside n e s)) :=
        withdrawInSlot_moves p (withdrawOutside_moves .refl)
      refine ⟨_, hgrant, hspares.frame, hentry, hmoves.kept.2, hfrom.lapCount, hpending, hsettle, fun hlast => ?_, hfrom.wasOther⟩
      obtain ⟨hreverted, hprevious, hbest, -⟩ := hfrom.wasLast hlast
      exact ⟨hreverted, hprevious, hbest⟩
  case retime =>
    obtain ⟨hrefused, haccepted⟩ := retime_follows_log p n u s
    exact ⟨hrefused, haccepted, mark_makes_passing p transponder u s⟩
  case revision =>
    obtain ⟨howed, hnew⟩ := revision_reaches_line x transponder r s
    refine ⟨howed, fun hu => ⟨fun before n after hq hn hb => ⟨fun ht => ?followOn, fun tr v w v' ht hbody hr => ?passing,
      fun tr a ht hbody => ?revise, fun tr v w ht hbody hr hz => ?removed⟩, hnew hu⟩⟩
    case followOn => exact offerRevision_followOn hu hq hn hb ht
    case passing =>
      refine offerRevision_changed hu hq hn hb ht ?_
      unfold reviseNotice
      rw [hbody, hr]
    case revise =>
      refine offerRevision_changed hu hq hn hb ht ?_
      unfold reviseNotice
      rw [hbody]
    case removed =>
      have hremoved : offerRevision x transponder r s = settleLine (setQueue (before ++ after) s) := by
        refine offerRevision_removed hu hq hn hb ht ?_ hz
        unfold reviseNotice
        rw [hbody, hr]
      show offerRevision x transponder r s = { s with line := (offerRevision x transponder r s).line } ∧
        (offerRevision x transponder r s).line.queue = before ++ after
      rw [hremoved]
      exact settleLine_frame (setQueue (before ++ after) s)

end Sys2Proof.Machine
end
